-- ==== Sys2Proof/Word.lean ====
section
/-! DEFINITION. The word types of the block: everything on the line and in a buffer is a byte
(00_scope.md R8, 20_memory.md R77). -/

namespace Sys2Proof

/-- A byte, 8 bits, numbered from 0 at the least significant bit (00_scope.md R8). -/
abbrev Byte := BitVec 8

end Sys2Proof
end

