-- ==== Sys2Proof/Config.lean ====
section
/-! DEFINITION. What an implementation fixes (the parameters of 00_scope.md R6) and the free values:
the Byte Channel's answers (20_memory.md R89) and what a register without a value reads as (R12, U19).
An `opaque` constant here has no body a proof could use. -/

namespace Sys2Proof

/-- What `ChRecv` answers (20_memory.md R86). -/
inductive RxAnswer where
  | byte (b : Byte)     -- `RxByte(b)`: a character with correct parity
  | parity (b : Byte)   -- `RxParity(b)`: a character with wrong parity, as sampled
  | timeout             -- `RxTimeout`: no character began in time
deriving DecidableEq, Repr, Inhabited

/-- One answer of the Byte Channel to one primitive, whichever it is (20_memory.md R89): the cycles it takes
beyond the least R89 asks for, the answer if it is a `ChSend`, the answer if it is a `ChRecv`. -/
structure Reply where
  extra : Nat
  nack  : Bool
  rx    : RxAnswer
deriving DecidableEq, Repr, Inhabited

/-- The places a register or buffer byte that holds no value could be read at, if a state had it so
(00_scope.md R12: no state the block reaches has). -/
inductive NoValueSite where
  | baudDiv | nackInhibit | tMark | cla | ins | p1 | p2 | p3 | xcase | xferDeadline
  | atrDeadline
  | dout (i : Nat) | atr (i : Nat) | raw (i : Nat)
deriving DecidableEq, Repr

namespace Config

/-- `ATR_MAX` (R6, R71): the size of the ATR buffer. -/
abbrev atrMax : Nat := 55

/-- `HDR_LEN` (R6). -/
abbrev hdrLen : Nat := 5

/-- `DATA_MAX` (R6): most data bytes in one TPDU. -/
abbrev dataMax : Nat := 255

/-- `NULL_BYTE` (R6). -/
abbrev nullByte : Byte := 0x60

/-- `MIN_GUARD_ETU` (R6). -/
abbrev minGuardEtu : Nat := 12

/-- `FI_DEFAULT` (R6). -/
abbrev fiDefault : BitVec 16 := 372

/-- `DI_DEFAULT` (R6). -/
abbrev diDefault : BitVec 8 := 1

/-- `MAX_ITER_DEFAULT` (R6). -/
abbrev maxIterDefault : BitVec 8 := 3

/-- `DIV_MIN` (R6). -/
abbrev divMin : Nat := 1

/-- `DIV_MAX` (R6). -/
abbrev divMax : Nat := 65535

/-- `ATR_WINDOW_CYCLES` (R6). -/
abbrev atrWindowCycles : Nat := 40000

/-- The one session's handle, which `INIT` returns (R7). -/
abbrev sessionHandle : Nat := 0

/-- `RST_HOLD_CYCLES`, OPEN in R6, at least 1. -/
opaque rstHoldCycles : ℕ+

/-- `VCC_STABLE_CYCLES`, OPEN in R6, at least 0. -/
opaque vccStableCycles : Nat

/-- `ATR_CHAR_TIMEOUT_ETU`, OPEN in R6, at least 1. -/
opaque atrCharTimeoutEtu : ℕ+

/-- `WWT_ETU`, OPEN in R6, at least 1. -/
opaque wwtEtu : ℕ+

/-- `XFER_TIMEOUT_ETU`, OPEN in R6, at least 1. -/
opaque xferTimeoutEtu : ℕ+

/-- The Byte Channel's answer number `n`, where `State.replies` holds no more (20_memory.md R89, U20). -/
opaque freeReply : Nat → Reply

/-- What a register or byte that holds no value would read as, at a site and at a count of answers used
(00_scope.md R12, U19: any value). -/
opaque noValue : NoValueSite → Nat → Nat

end Config
end Sys2Proof
end

