-- ==== Sys2Proof/Syntax.lean ====
section
/-! DEFINITION. The instructions: one constructor per row of spec/opcode_table.json. Host commands carry their
argument block (30_encoding.md R102), line formats their fields, the micro-operations their operands
(43_char_retry.md R221, R224), the error statuses the detail that goes with them (R126). -/

namespace Sys2Proof

/-- The detail codes of 30_encoding.md R126. -/
inductive Detail where
  | none | badTs | truncated | trailing | parity
deriving DecidableEq, Repr

/-- Which character of an ATR a byte is (30_encoding.md R115). -/
inductive AtrRole where
  | ts | t0 | ta | tb | tc | td | hist | tck
deriving DecidableEq, Repr

/-- The argument of `INIT`: the fields of the 96-bit `CFG` word (30_encoding.md R108), the reserved bits
among them because `INIT` tests them (40_timing_and_init.md R149). -/
structure CfgArg where
  protocol      : BitVec 4
  clkSel        : BitVec 2
  charLen       : BitVec 4
  parity        : BitVec 2
  stopBits      : BitVec 2
  bitOrder      : BitVec 1
  nackInhibit   : BitVec 2
  reserved      : BitVec 7
  maxIterations : BitVec 8
  targetClockHz : BitVec 32
  fi            : BitVec 16
  di            : BitVec 8
  timeGuardEtu  : BitVec 8
deriving DecidableEq, Repr

/-- The argument of `DERIVE_TIMING`: the fields of the 64-bit `DT` word (30_encoding.md R109). -/
structure DtArg where
  fi            : BitVec 16
  di            : BitVec 8
  timeGuardEtu  : BitVec 8
  targetClockHz : BitVec 32
deriving DecidableEq, Repr

/-- The rows of spec/opcode_table.json, in its order. -/
inductive Instr where
  | init (c : CfgArg)
  | deriveTiming (d : DtArg)
  | coldReset
  | warmReset
  | transfer (cla ins p1 p2 p3 : Byte)
  | transferD (cla ins p1 p2 p3 : Byte) (data : List Byte)
  | decodeAtr (raw : List Byte)
  | reservedOp0 (rest : BitVec 5)
  | reservedOp7 (rest : BitVec 5)
  | tpduHdr (cla ins p1 p2 p3 : Byte)
  | procNull
  | procAck (pb : Byte)
  | procAckInv (pb : Byte)
  | procSw1 (sw1 : Byte)
  | atrTsDirect
  | atrTsInverse
  | atrT0 (y1 k : BitVec 4)
  | atrTd (y t : BitVec 4)
  | atrTck (tck : Byte)
  | txChar (b : Byte)
  | rxChar (wait : Nat) (dl : Option Nat)
  | statusOk
  | statusConfigError
  | statusNoCardResponse
  | statusMalformedAtr (detail : Detail)
  | statusChecksumError
  | statusParityExhausted
  | statusCardTimeout
  | statusProtocolViolation
deriving DecidableEq, Repr

end Sys2Proof
end

