-- ==== Sys2Proof/Machine/State.lean ====
section
/-! DEFINITION. The state of the block (10_state.md R20, 20_memory.md R70), its oracle and its host as plain
data, the ways a step can stop, and the state after hardware reset (R64). A register the spec lets hold "no
value" (00_scope.md R12) is an `Option`, `none` being the spec's "no value" (log entry 1). -/

namespace Sys2Proof.Machine

/-- A byte buffer (20_memory.md R70): cells (index, byte) with strictly rising indices. An index with no cell
holds no value (R12, U19). -/
abbrev Memory := List Host.Cell

/-- `sess_state` (R21). -/
inductive SessState where
  | none     -- 0 `S_NONE`
  | ready    -- 1 `S_READY`
  | active   -- 2 `S_ACTIVE`
  | failed   -- 3 `S_FAILED`
deriving DecidableEq, Repr

/-- `owner` (R23); the value 3 is never written (U16). -/
inductive Owner where
  | none   -- 0 `OWN_NONE`
  | rs     -- 1 `OWN_RS`
  | xfer   -- 2 `OWN_XFER`
deriving DecidableEq, Repr

/-- `cur_op` (R24, 30_encoding.md R102); 7 is reserved and never in flight. -/
inductive Op where
  | none           -- 0, nothing in flight
  | init           -- 1
  | deriveTiming   -- 2
  | coldReset      -- 3
  | warmReset      -- 4
  | transfer       -- 5
  | decodeAtr      -- 6
deriving DecidableEq, Repr

/-- The fields `cfg.*` that hold no value before the first `INIT` (R25); `cfg.max_iterations`, which resets to
3, is `State.cfgMaxIterations`. -/
structure SessionConfig where
  protocol      : BitVec 4
  clkSel        : BitVec 2
  charLen       : BitVec 4
  parity        : BitVec 2
  stopBits      : BitVec 2
  bitOrder      : BitVec 1
  nackInhibit   : BitVec 2
  targetClockHz : BitVec 32
  fi            : BitVec 16
  di            : BitVec 8
  timeGuardEtu  : BitVec 8
deriving DecidableEq, Repr

/-- `rs_state` (R26). -/
inductive RsState where
  | idle            -- 0
  | vccStable       -- 1
  | clockStarted    -- 2
  | rstAsserted     -- 3
  | rstReleased     -- 4
  | atrWindowOpen   -- 5
  | atrCaptured     -- 6
  | atrTimeout      -- 7
deriving DecidableEq, Repr

/-- `rs_kind` (R27). -/
inductive ResetKind where
  | cold   -- 0
  | warm   -- 1
deriving DecidableEq, Repr

/-- A `Group` of interface bytes (R33); an absent byte is absent. -/
structure AtrGroup where
  index : Nat
  proto : Option (BitVec 4)
  ta    : Option Byte
  tb    : Option Byte
  tc    : Option Byte
  td    : Option Byte
deriving DecidableEq, Repr

/-- `AtrView`, the decoded view of an ATR (R33). -/
structure AtrView where
  ts         : Byte
  convention : BitVec 1
  t0         : Byte
  k          : BitVec 4
  y1         : BitVec 4
  groups     : List AtrGroup
  hist       : List Byte
  tckPresent : Bool
  tck        : Option Byte
  len        : BitVec 8
deriving DecidableEq, Repr

/-- `xfer_state` (R34); 6 and 7 are never written (U16). -/
inductive XferState where
  | idle                 -- 0
  | sendHeader           -- 1
  | awaitProcedureByte   -- 2
  | dataOut              -- 3
  | dataIn               -- 4
  | complete             -- 5
deriving DecidableEq, Repr

/-- The five registers `HDR[0..4]` (R35). -/
structure Header where
  cla : Byte
  ins : Byte
  p1  : Byte
  p2  : Byte
  p3  : Byte
deriving DecidableEq, Repr

/-- `xcase` (R36); the value 0 is never written (U16). -/
inductive XCase where
  | case1   -- 1, no data
  | case2   -- 2, data from host to card
  | case3   -- 3, data from card to host
deriving DecidableEq, Repr

/-- `rsp_status` (R43, 30_encoding.md R125); 8 to 15 are never produced. -/
inductive Status where
  | ok                  -- 0
  | configError         -- 1
  | noCardResponse      -- 2
  | malformedAtr        -- 3
  | checksumError       -- 4
  | parityExhausted     -- 5
  | cardTimeout         -- 6
  | protocolViolation   -- 7
deriving DecidableEq, Repr

/-- The settings `ChApply` hands to the Byte Channel (20_memory.md R80). -/
structure LineSettings where
  baudDiv       : BitVec 16
  guardTicks    : BitVec 9
  clkSel        : BitVec 2
  targetClockHz : BitVec 32
  charLen       : BitVec 4
  parity        : BitVec 2
  stopBits      : BitVec 2
  bitOrder      : BitVec 1
  nackInhibit   : BitVec 2
deriving DecidableEq, Repr

/-- One entry of a command's event history (20_memory.md R90): a channel primitive with its answer (R80 to
R88), the acceptance of the command or its response (00_scope.md R13), the hardware reset (R320). -/
inductive Event where
  | accept (op : Op)
  | apply (s : LineSettings)
  | vcc (on : Bool)
  | clk (on : Bool)
  | rst (high : Bool)
  | waitUntil (t : Nat)
  | flush
  | send (b : Byte) (nack : Bool)
  | recv (t : Nat) (a : RxAnswer)
  | nack
  | respond (status : Status) (detail : Detail)
  | hardwareReset
deriving DecidableEq, Repr

/-- The lines of the Reset Sequencer's pseudocode that are no micro-operation (41_reset_sequencer.md). -/
inductive Contact where
  | coldRstLow    -- R164, first line
  | coldClkOff    -- R164
  | coldVccOff    -- R164
  | coldVccOn     -- R164
  | vccWait       -- R164's last lines, R165's wait
  | clkOn         -- R165
  | clkRstLow     -- R166
  | warmRstLow    -- R167
  | holdWait      -- the last lines of R166 or R167, R170's wait
  | resetFlush    -- R170
  | rstHigh       -- R170
  | released      -- R170's last lines
  | openWindow    -- R171
deriving DecidableEq, Repr

/-- What the command in flight does next: the part of the block's program counter that the registers of R49
leave implicit (the model's own, log entry 4). -/
inductive Todo where
  | idle                   -- no command in flight
  | contact (c : Contact)
  | flush                  -- R242
  | capture (b : Byte)     -- R176, R177 for an ATR character that has no format of its own
  | micro (i : Instr)      -- a row of the opcode table
deriving DecidableEq, Repr

/-- Where `TX_CHAR` (R222) or `RX_CHAR` (R225) stands (the model's own, log entry 4). -/
inductive CharPhase where
  | fresh                  -- the micro-operation has not begun
  | sent (nack : Bool)     -- `ChSend` has answered
  | got (a : RxAnswer)     -- `ChRecv` has answered
  | nacked                 -- `ChNack` is made, the next try follows
deriving DecidableEq, Repr

/-- A move of the host: a command presented at the command port (30_encoding.md R101) or the assertion of the
reset input (70_reset_and_hazards.md R320). -/
inductive HostMove where
  | command (bytes : List Byte)
  | hardwareReset
deriving DecidableEq, Repr

/-- A host move and the count of the oracle's answers before which it does not happen (log entry 5). -/
structure Presentation where
  notBefore : Nat
  move      : HostMove
deriving DecidableEq, Repr

/-- The registers of the status view (10_state.md R62). -/
structure StatusRegs where
  sessState        : SessState
  busy             : Bool
  owner            : Owner
  curOp            : Op
  rsState          : RsState
  rsKind           : ResetKind
  xferState        : XferState
  xcase            : Option XCase
  pinVcc           : Bool
  pinClk           : Bool
  pinRst           : Bool
  atrLen           : BitVec 8
  atrValid         : Bool
  rspStatus        : Status
  rspDetail        : Detail
  rspLen           : BitVec 8
  idx              : BitVec 9
  retry            : BitVec 8
  doutLen          : BitVec 8
  rawLen           : BitVec 8
  cfg              : Option SessionConfig
  cfgMaxIterations : BitVec 8
  baudDiv          : Option (BitVec 16)
  guardTicks       : Option (BitVec 9)
deriving DecidableEq, Repr

/-- The state of the block, with the time base, the oracle and the host beside it. -/
structure State where
  /-- R21 -/
  sessState        : SessState
  /-- R22 -/
  busy             : Bool
  /-- R23 -/
  owner            : Owner
  /-- R24 -/
  curOp            : Op
  /-- `cfg.*` but `max_iterations`, R25 -/
  cfg              : Option SessionConfig
  /-- `cfg.max_iterations`, R25 -/
  cfgMaxIterations : BitVec 8
  /-- R30 -/
  baudDiv          : Option (BitVec 16)
  /-- R30 -/
  guardTicks       : Option (BitVec 9)
  /-- R29 -/
  pinVcc           : Bool
  /-- R29 -/
  pinClk           : Bool
  /-- R29 -/
  pinRst           : Bool
  /-- R26 -/
  rsState          : RsState
  /-- R27 -/
  rsKind           : ResetKind
  /-- R28 -/
  tMark            : Option Nat
  /-- R28 -/
  atrDeadline      : Option Nat
  /-- the buffer `ATR`, R71 -/
  atr              : Memory
  /-- R32 -/
  atrLen           : BitVec 8
  /-- R32 -/
  atrValid         : Bool
  /-- R33 -/
  atrd             : Option AtrView
  /-- R34 -/
  xferState        : XferState
  /-- R35 -/
  hdr              : Option Header
  /-- R36 -/
  xcase            : Option XCase
  /-- the buffer `DOUT`, R72 -/
  dout             : Memory
  /-- R37 -/
  doutLen          : BitVec 8
  /-- R38 -/
  idx              : BitVec 9
  /-- the buffer `RSP`, R73 -/
  rsp              : Memory
  /-- R39 -/
  rspLen           : BitVec 8
  /-- R40 -/
  sw1              : Option Byte
  /-- R40 -/
  sw2              : Option Byte
  /-- R41 -/
  xferDeadline     : Option Nat
  /-- R42 -/
  retry            : BitVec 8
  /-- R43 -/
  rspStatus        : Status
  /-- R43 -/
  rspDetail        : Detail
  /-- R44 -/
  resBaudDiv       : Option (BitVec 16)
  /-- R44 -/
  resGuardTicks    : Option (BitVec 9)
  /-- the buffer `RAW`, R74 -/
  raw              : Memory
  /-- R45 -/
  rawLen           : BitVec 8
  /-- R45 -/
  decd             : Option AtrView
  /-- the time base, R46 -/
  now              : Nat
  /-- the model's own: what the command in flight does next -/
  todo             : Todo
  /-- the model's own: where the micro-operation stands -/
  char             : CharPhase
  /-- the model's own: the register updates of a step of R13 have begun, its primitive is still to come -/
  midStep          : Bool
  /-- the model's own: while `midStep`, the registers of the status view as of the last completed step (R62) -/
  shown            : StatusRegs
  /-- the event history of the command in flight or of the last one, R90 -/
  history          : List Event
  /-- the model's own: the host's moves still to come -/
  port             : List Presentation
  /-- the model's own: the Byte Channel's answers still to come -/
  replies          : List Reply
  /-- the model's own: how many answers of the oracle have been used -/
  tick             : Nat
deriving DecidableEq, Repr

/-- The ways a step faults. -/
inductive Fault where
  /-- An access to an index outside a buffer, which 20_memory.md R70 says does not exist. Raised by the store
  operation of Machine/Ops.lean. Safe: R75 says that no rule forms such an index, and the machine stops where it
  would. -/
  | bufferRange
deriving DecidableEq, Repr

/-- The ways a step is refused. -/
inductive Refusal where
  /-- An instruction without a meaning; raised by `exec` only. Safe: the machine stops. -/
  | notModelled (mnemonic : String)
deriving DecidableEq, Repr

/-- What a meaning answers. -/
abbrev Result := Host.Outcome State Fault Refusal

/-- The state after hardware reset (R64), with no host move and no channel answer foreseen. -/
def State.reset : State where
  sessState        := .none
  busy             := false
  owner            := .none
  curOp            := .none
  cfg              := none
  cfgMaxIterations := Config.maxIterDefault
  baudDiv          := none
  guardTicks       := none
  pinVcc           := false
  pinClk           := false
  pinRst           := false
  rsState          := .idle
  rsKind           := .cold
  tMark            := none
  atrDeadline      := none
  atr              := []
  atrLen           := 0
  atrValid         := false
  atrd             := none
  xferState        := .idle
  hdr              := none
  xcase            := none
  dout             := []
  doutLen          := 0
  idx              := 0
  rsp              := []
  rspLen           := 0
  sw1              := none
  sw2              := none
  xferDeadline     := none
  retry            := 0
  rspStatus        := .ok
  rspDetail        := .none
  resBaudDiv       := none
  resGuardTicks    := none
  raw              := []
  rawLen           := 0
  decd             := none
  now              := 0
  todo             := .idle
  char             := .fresh
  midStep          := false
  shown            :=
    { sessState := .none, busy := false, owner := .none, curOp := .none, rsState := .idle, rsKind := .cold,
      xferState := .idle, xcase := none, pinVcc := false, pinClk := false, pinRst := false, atrLen := 0,
      atrValid := false, rspStatus := .ok, rspDetail := .none, rspLen := 0, idx := 0, retry := 0, doutLen := 0,
      rawLen := 0, cfg := none, cfgMaxIterations := Config.maxIterDefault, baudDiv := none, guardTicks := none }
  history          := []
  port             := []
  replies          := []
  tick             := 0

end Sys2Proof.Machine
end

