-- ==== Sys2Proof/Machine/Ops.lean ====
section
/-! DEFINITION. The named operations: buffer accesses (00_scope.md R9, 20_memory.md R70 to R75), the channel
primitives (R80 to R88), the completion of a command (60_exceptions.md R286) and the state changes of the
error kinds (R287 to R293), which are the block's exceptions; it has no return from one (R295). -/

namespace Sys2Proof.Machine

/-! ## Buffers -/

/-- `MemRead(B + i, 1)` (R9): `none` is "no value" (R12). -/
def memRead : Memory → Nat → Option Byte
  | [], _ => none
  | (a, b) :: rest, i => if a = i then some b else memRead rest i

/-- `MemWrite(B + i, 1, v)` (R9), keeping the indices strictly rising. -/
def memWrite : Memory → Nat → Byte → Memory
  | [], i, v => [(i, v)]
  | (a, b) :: rest, i, v =>
    if i < a then (i, v) :: (a, b) :: rest
    else if i = a then (i, v) :: rest
    else (a, b) :: memWrite rest i v

/-- The canonical form of a buffer: its indices rise strictly. -/
def Memory.wf : Memory → Bool
  | [] => true
  | [_] => true
  | (a, _) :: (b, y) :: rest => decide (a < b) && Memory.wf ((b, y) :: rest)

/-- A write to a buffer of `size` bytes; an index outside it does not exist (R70, R75). -/
def memStore (size : Nat) (m : Memory) (i : Nat) (v : Byte) : Option Memory :=
  if i < size then some (memWrite m i v) else none

/-- The bytes in a buffer from an index on. -/
def memFrom : Nat → List Byte → Memory
  | _, [] => []
  | i, b :: rest => (i, b) :: memFrom (i + 1) rest

/-- A buffer that holds exactly these bytes from index 0 on, no value beyond (R72, R74). -/
def memOfBytes (bs : List Byte) : Memory := memFrom 0 bs

/-! ## The oracle and the flow of a command -/

/-- The Byte Channel's answer to the next primitive: the one foreseen, else the free value (R89, U20). -/
def reply (s : State) : Reply :=
  match s.replies with
  | r :: _ => r
  | [] => Config.freeReply s.tick

/-- A channel primitive is made: `dt` cycles pass, one answer of the oracle is used, the event joins the
command's history (R90), a step of the block ends (00_scope.md R13). -/
def perform (ev : Event) (dt : Nat) (s : State) : State :=
  { s with now := s.now + dt, history := s.history ++ [ev], replies := s.replies.tail,
           tick := s.tick + 1, midStep := false }

/-- The command in flight goes on elsewhere in its pseudocode without a primitive: part of the step of the
primitive that follows (00_scope.md R13). No time passes (DESIGN CHOICE, log entry 17). -/
def goto (t : Todo) (s : State) : State :=
  { s with todo := t, char := .fresh, midStep := true }

/-- After a primitive, the place in the pseudocode the next step begins at. -/
def continueAt (t : Todo) (s : State) : State := { s with todo := t }

/-- The idle block lets time pass (93_implementation_defined.md U24; log entry 12). -/
def idleTick (s : State) : State :=
  { s with now := s.now + (reply s).extra, replies := s.replies.tail, tick := s.tick + 1, midStep := false }

/-- The registers of the status view as they are (10_state.md R62). -/
def statusRegs (s : State) : StatusRegs :=
  { sessState := s.sessState, busy := s.busy, owner := s.owner, curOp := s.curOp, rsState := s.rsState,
    rsKind := s.rsKind, xferState := s.xferState, xcase := s.xcase, pinVcc := s.pinVcc, pinClk := s.pinClk,
    pinRst := s.pinRst, atrLen := s.atrLen, atrValid := s.atrValid, rspStatus := s.rspStatus,
    rspDetail := s.rspDetail, rspLen := s.rspLen, idx := s.idx, retry := s.retry, doutLen := s.doutLen,
    rawLen := s.rawLen, cfg := s.cfg, cfgMaxIterations := s.cfgMaxIterations, baudDiv := s.baudDiv,
    guardTicks := s.guardTicks }

/-- What the status view shows after a line of the pseudocode that took the block from `s` to `t`: where a step of
R13 begins with it and does not end, the view stays at `s` (R62, R338). -/
def holdShown (s t : State) : State :=
  { t with shown := if s.midStep = false ∧ t.midStep = true then statusRegs s else t.shown }

/-! ## The channel primitives -/

/-- `ChApply(settings)` (R80). -/
def chApply (ls : LineSettings) (s : State) : State := perform (.apply ls) (reply s).extra s

/-- `ChVcc(On)` or `ChVcc(Off)` with the register that follows it (R81, 10_state.md R29). -/
def chVcc (on : Bool) (s : State) : State := perform (.vcc on) (reply s).extra { s with pinVcc := on }

/-- `ChClk(On)` or `ChClk(Off)` with the register that follows it (R82, R29). -/
def chClk (on : Bool) (s : State) : State := perform (.clk on) (reply s).extra { s with pinClk := on }

/-- `ChRst(High)` or `ChRst(Low)` with the register that follows it (R83, R29). -/
def chRst (high : Bool) (s : State) : State := perform (.rst high) (reply s).extra { s with pinRst := high }

/-- `ChFlush()` (R84). -/
def chFlush (s : State) : State := perform .flush (reply s).extra s

/-- `ChNack()` (R87). -/
def chNack (s : State) : State := perform .nack (reply s).extra s

/-- `ChSend(b)` (R85): at least one cycle (R89 b), and the answer is the card's (R89 d). -/
def chSend (b : Byte) (s : State) : State :=
  { perform (.send b (reply s).nack) (1 + (reply s).extra) s with char := .sent (reply s).nack }

/-- The least time a `ChRecv(t)` takes for its answer (R89 b, c). -/
def recvTime (t : Nat) : RxAnswer → Nat
  | .byte _ => 1
  | .parity _ => 1
  | .timeout => t

/-- `ChRecv(t)` (R86): the answer is the card's and the line's (R89 e). -/
def chRecv (t : Nat) (s : State) : State :=
  { perform (.recv t (reply s).rx) (recvTime t (reply s).rx + (reply s).extra) s with char := .got (reply s).rx }

/-- How long `WaitUntil(t)` takes: nothing when `t` has passed, else at least until `t` (R88). -/
def waitTime (t : Nat) (s : State) : Nat :=
  if t ≤ s.now then 0 else (t - s.now) + (reply s).extra

/-- `WaitUntil(t)` (R88). It is none of the channel primitives of 00_scope.md R10, so it ends no step of R13: it is part
of the step of the primitive that follows. The history shows it none the less (DESIGN CHOICE, log entry 18). -/
def waitUntil (t : Nat) (s : State) : State := { perform (.waitUntil t) (waitTime t s) s with midStep := true }

/-! ## Acceptance and completion -/

/-- The acceptance common to every command: `busy` and `cur_op` (R22, R24), and a new event history (R90). No time
passes (DESIGN CHOICE, log entry 17). -/
def begin (op : Op) (s : State) : State :=
  { s with busy := true, curOp := op, history := [.accept op] }

/-- `respond(status, payload)`, the common completion (60_exceptions.md R286). No time passes (DESIGN CHOICE, log
entry 17). -/
def respond (st : Status) (d : Detail) (s : State) : State :=
  { s with rspStatus := st, rspDetail := if st = .malformedAtr then d else .none,
           busy := false, curOp := .none, owner := .none,
           todo := .idle, char := .fresh, midStep := false,
           history := s.history ++ [.respond st (if st = .malformedAtr then d else .none)] }

/-! ## The error kinds -/

/-- What a transfer that fails (R291) or is pre-empted (R296) loses. -/
def dropTransfer (s : State) : State :=
  { s with xferState := .idle, rspLen := 0, rsp := [], sw1 := none, sw2 := none,
           hdr := none, xcase := none, dout := [], doutLen := 0 }

/-- `raise ConfigError(0)` (R287): the result pair loses its value. -/
def raiseConfigError (s : State) : State :=
  respond .configError .none { s with resBaudDiv := none, resGuardTicks := none }

/-- `raise NoCardResponse(0)` (R288): the sequencer has set all the rest before. -/
def raiseNoCardResponse (s : State) : State := respond .noCardResponse .none s

/-- What `MalformedAtr` and `ChecksumError` change before they respond (R289): from a reset command the
session fails, from `DECODE_ATR` only `DECD` loses its value. -/
def failAtr (s : State) : State :=
  match s.curOp with
  | .coldReset => { s with sessState := .failed, atrValid := false, atrd := none }
  | .warmReset => { s with sessState := .failed, atrValid := false, atrd := none }
  | .decodeAtr => { s with decd := none }
  | .none => s
  | .init => s
  | .deriveTiming => s
  | .transfer => s

/-- `raise MalformedAtr(d)` (R289). -/
def raiseMalformedAtr (d : Detail) (s : State) : State := respond .malformedAtr d (failAtr s)

/-- `raise ChecksumError(0)` (R289). -/
def raiseChecksumError (s : State) : State := respond .checksumError .none (failAtr s)

/-- `raise` of a transfer's error kind: the common part R291, then the response (R290, R292, R293). -/
def raiseTransferError (st : Status) (s : State) : State := respond st .none (dropTransfer s)

/-! ## The hardware reset -/

/-- The hardware reset event (70_reset_and_hazards.md R320): every register and buffer as R64 has it, whatever
is in flight; the oracle and the host's later moves are not the block's. -/
def hardwareReset (s : State) : State :=
  { State.reset with history := [.hardwareReset], port := s.port, replies := s.replies, tick := s.tick }

end Sys2Proof.Machine
end

