-- ==== Sys2Proof/Machine/Flags.lean ====
section
/-! DEFINITION. The flags the block decides by (10_state.md R47): it has no condition codes; what gates a
command is `busy`, `sess_state` and `card_running` (30_encoding.md R107, 60_exceptions.md R299). -/

namespace Sys2Proof.Machine

/-- `card_running` (R29). -/
def cardRunning (s : State) : Bool := s.pinVcc && s.pinClk

/-- The sessions a reset command is accepted in, with `busy = 0` (R107). -/
def sessionResettable (s : State) : Bool := s.sessState == .ready || s.sessState == .active

/-- A transfer is in flight: the column in which a reset command pre-empts (R107, 60_exceptions.md R296). -/
def transferInFlight (s : State) : Bool := s.busy && s.curOp == .transfer

/-- The acceptance table (R107). -/
def accepts (op : Op) (s : State) : Bool :=
  match op with
  | .init => !s.busy
  | .deriveTiming => !s.busy
  | .decodeAtr => !s.busy
  | .coldReset => if s.busy then transferInFlight s else sessionResettable s
  | .warmReset => if s.busy then transferInFlight s else sessionResettable s && cardRunning s
  | .transfer => !s.busy && s.sessState == .active
  | .none => false

end Sys2Proof.Machine
end

