-- ==== Sys2Proof/WellFormed.lean ====
section
/-! DEFINITION. Which terms of `Instr` are instructions of the spec: the lengths of 30_encoding.md R105, the
class conditions of R110 to R113, the operand condition of 43_char_retry.md R224. -/

namespace Sys2Proof

/-- A well-formed instruction. Every operand of a row not named here may have any value (30_encoding.md R127). -/
def Instr.wf : Instr → Bool
  | .transferD _ _ _ _ p3 data => data.length == p3.toNat
  | .decodeAtr raw => decide (raw.length ≤ Config.atrMax)
  | .procAck pb => pb != Config.nullByte
  | .procAckInv pb => pb != Config.nullByte
  | .procSw1 sw1 => sw1 != Config.nullByte
  | .rxChar wait _ => decide (1 ≤ wait)
  | .init _ => true
  | .deriveTiming _ => true
  | .coldReset => true
  | .warmReset => true
  | .transfer _ _ _ _ _ => true
  | .reservedOp0 _ => true
  | .reservedOp7 _ => true
  | .tpduHdr _ _ _ _ _ => true
  | .procNull => true
  | .atrTsDirect => true
  | .atrTsInverse => true
  | .atrT0 _ _ => true
  | .atrTd _ _ => true
  | .atrTck _ => true
  | .txChar _ => true
  | .statusOk => true
  | .statusConfigError => true
  | .statusNoCardResponse => true
  | .statusMalformedAtr _ => true
  | .statusChecksumError => true
  | .statusParityExhausted => true
  | .statusCardTimeout => true
  | .statusProtocolViolation => true

end Sys2Proof
end

