-- ==== Sys2Proof/Decode.lean ====
section
/-! DEFINITION. Decoding and encoding (30_encoding.md). The opcode table has several encoding spaces (host
commands, the TPDU header, the procedure byte, ATR characters, status codes); which one a byte belongs to is
known from where it is read, so the decoder takes the space. Total on any bytes; it rejects by name. -/

namespace Sys2Proof

/-- Why bytes are no instruction of a space. -/
inductive Reject where
  | noBytes          -- nothing to read
  | reservedBits     -- bits [7:4] of the command byte are not 0 (R105 a)
  | dataPresent      -- `dp = 1` with an op other than `TRANSFER` (R105 b)
  | shortArguments   -- the argument block ends early
  | lengthMismatch   -- `dlen` differs from P3 (R105 c)
  | tooManyBytes     -- `n` exceeds `ATR_MAX` (R105 e)
  | badTs            -- neither legal value of TS (R116)
  | noFormat         -- a character or micro-operation with no format of its own
  | badStatus        -- a status or detail code never produced (R125, R126)
deriving DecidableEq, Repr

/-- The encoding spaces of the opcode table; a procedure byte is read against the INS of the transfer in
flight (R112), an ATR character by its place in the structure (R115). -/
inductive Space where
  | command
  | header
  | proc (ins : Byte)
  | atr (role : AtrRole)
  | status
  | micro
deriving DecidableEq, Repr

/-- The high nibble `b[7:4]` (00_scope.md R8). -/
def hiNibble (b : Byte) : BitVec 4 := b.extractLsb' 4 4

/-- The low nibble `b[3:0]` (00_scope.md R8). -/
def loNibble (b : Byte) : BitVec 4 := b.extractLsb' 0 4

/-- The byte `hi ‖ lo` (00_scope.md R8). -/
def joinNibbles (hi lo : BitVec 4) : Byte := hi ++ lo

/-- The fields of a `CFG` word (R108). -/
def cfgOfWord (w : BitVec 96) : CfgArg where
  protocol      := w.extractLsb' 0 4
  clkSel        := w.extractLsb' 4 2
  charLen       := w.extractLsb' 6 4
  parity        := w.extractLsb' 10 2
  stopBits      := w.extractLsb' 12 2
  bitOrder      := w.extractLsb' 14 1
  nackInhibit   := w.extractLsb' 15 2
  reserved      := w.extractLsb' 17 7
  maxIterations := w.extractLsb' 24 8
  targetClockHz := w.extractLsb' 32 32
  fi            := w.extractLsb' 64 16
  di            := w.extractLsb' 80 8
  timeGuardEtu  := w.extractLsb' 88 8

/-- The `CFG` word of the fields (R108). -/
def cfgToWord (c : CfgArg) : BitVec 96 :=
  c.timeGuardEtu ++ c.di ++ c.fi ++ c.targetClockHz ++ c.maxIterations ++ c.reserved ++ c.nackInhibit ++
    c.bitOrder ++ c.stopBits ++ c.parity ++ c.charLen ++ c.clkSel ++ c.protocol

/-- The fields of a `DT` word (R109). -/
def dtOfWord (w : BitVec 64) : DtArg where
  fi            := w.extractLsb' 0 16
  di            := w.extractLsb' 16 8
  timeGuardEtu  := w.extractLsb' 24 8
  targetClockHz := w.extractLsb' 32 32

/-- The `DT` word of the fields (R109). -/
def dtToWord (d : DtArg) : BitVec 64 :=
  d.targetClockHz ++ d.timeGuardEtu ++ d.di ++ d.fi

/-- Byte number `k` of a word, byte 0 the least significant (DESIGN CHOICE, log entry 7: the spec gives `CFG`
and `DT` as words and does not say in which order their bytes cross the port). -/
def byteOf {w : Nat} (v : BitVec w) (k : Nat) : Byte := v.extractLsb' (8 * k) 8

/-- The bytes of a `CFG` word as presented, least significant first. -/
def cfgBytes (w : BitVec 96) : List Byte :=
  [byteOf w 0, byteOf w 1, byteOf w 2, byteOf w 3, byteOf w 4, byteOf w 5,
   byteOf w 6, byteOf w 7, byteOf w 8, byteOf w 9, byteOf w 10, byteOf w 11]

/-- The bytes of a `DT` word as presented, least significant first. -/
def dtBytes (w : BitVec 64) : List Byte :=
  [byteOf w 0, byteOf w 1, byteOf w 2, byteOf w 3, byteOf w 4, byteOf w 5, byteOf w 6, byteOf w 7]

/-- What a decoder answers: the instruction and the bytes after it, or a rejection. -/
abbrev Decoded := Except Reject (Instr × List Byte)

/-- The argument block of `INIT` (R108). -/
def decodeInit : List Byte → Decoded
  | b0 :: b1 :: b2 :: b3 :: b4 :: b5 :: b6 :: b7 :: b8 :: b9 :: b10 :: b11 :: rest =>
    .ok (.init (cfgOfWord (b11 ++ b10 ++ b9 ++ b8 ++ b7 ++ b6 ++ b5 ++ b4 ++ b3 ++ b2 ++ b1 ++ b0)), rest)
  | _ => .error .shortArguments

/-- The argument block of `DERIVE_TIMING` (R109). -/
def decodeDerive : List Byte → Decoded
  | b0 :: b1 :: b2 :: b3 :: b4 :: b5 :: b6 :: b7 :: rest =>
    .ok (.deriveTiming (dtOfWord (b7 ++ b6 ++ b5 ++ b4 ++ b3 ++ b2 ++ b1 ++ b0)), rest)
  | _ => .error .shortArguments

/-- The argument block of `TRANSFER` with `dp = 0` (R100, R105 d). -/
def decodeTransfer : List Byte → Decoded
  | cla :: ins :: p1 :: p2 :: p3 :: rest => .ok (.transfer cla ins p1 p2 p3, rest)
  | _ => .error .shortArguments

/-- The argument block of `TRANSFER` with `dp = 1`: the header, `dlen`, the data; `dlen` must equal P3 (R103,
R105 c, R128). -/
def decodeTransferD : List Byte → Decoded
  | cla :: ins :: p1 :: p2 :: p3 :: dlen :: rest =>
    if dlen != p3 then .error .lengthMismatch
    else if rest.length < dlen.toNat then .error .shortArguments
    else .ok (.transferD cla ins p1 p2 p3 (rest.take dlen.toNat), rest.drop dlen.toNat)
  | _ => .error .shortArguments

/-- The argument block of `DECODE_ATR`: `n`, then `n` bytes (R103, R105 e). -/
def decodeRaw : List Byte → Decoded
  | n :: rest =>
    if Config.atrMax < n.toNat then .error .tooManyBytes
    else if rest.length < n.toNat then .error .shortArguments
    else .ok (.decodeAtr (rest.take n.toNat), rest.drop n.toNat)
  | _ => .error .shortArguments

/-- A command as presented: the command byte (R103), then the argument block its op code calls for (R102). -/
def decodeCommand : List Byte → Decoded
  | [] => .error .noBytes
  | cmd :: rest =>
    let op : BitVec 3 := cmd.extractLsb' 0 3
    let dp : BitVec 1 := cmd.extractLsb' 3 1
    if op = 0 then .ok (.reservedOp0 (cmd.extractLsb' 3 5), rest)
    else if op = 7 then .ok (.reservedOp7 (cmd.extractLsb' 3 5), rest)
    else if hiNibble cmd != 0 then .error .reservedBits
    else if dp = 1 then (if op = 5 then decodeTransferD rest else .error .dataPresent)
    else if op = 1 then decodeInit rest
    else if op = 2 then decodeDerive rest
    else if op = 3 then .ok (.coldReset, rest)
    else if op = 4 then .ok (.warmReset, rest)
    else if op = 5 then decodeTransfer rest
    else decodeRaw rest

/-- The five header bytes, CLA first (R100). -/
def decodeHeader : List Byte → Decoded
  | cla :: ins :: p1 :: p2 :: p3 :: rest => .ok (.tpduHdr cla ins p1 p2 p3, rest)
  | _ => .error .shortArguments

/-- The class of a procedure byte against INS, the tests in the order of R110: NULL (R111), ACK (R112), else
SW1 (R113). -/
def classifyProc (ins pb : Byte) : Instr :=
  if pb = Config.nullByte then .procNull
  else if pb = ins then .procAck pb
  else if pb = ~~~ins then .procAckInv pb
  else .procSw1 pb

/-- The format of an ATR character by its role (R116 to R121). -/
def decodeAtrByte (role : AtrRole) (b : Byte) : Except Reject Instr :=
  match role with
  | .ts => if b = 0x3B then .ok .atrTsDirect else if b = 0x3F then .ok .atrTsInverse else .error .badTs
  | .t0 => .ok (.atrT0 (hiNibble b) (loNibble b))
  | .td => .ok (.atrTd (hiNibble b) (loNibble b))
  | .tck => .ok (.atrTck b)
  | .ta => .error .noFormat
  | .tb => .error .noFormat
  | .tc => .error .noFormat
  | .hist => .error .noFormat

/-- The detail of a detail code (R126). -/
def detailOfCode (d : BitVec 3) : Option Detail :=
  if d = 0 then some .none
  else if d = 1 then some .badTs
  else if d = 2 then some .truncated
  else if d = 3 then some .trailing
  else if d = 4 then some .parity
  else Option.none

/-- The detail code of a detail (R126). -/
def Detail.code : Detail → BitVec 3
  | .none => 0
  | .badTs => 1
  | .truncated => 2
  | .trailing => 3
  | .parity => 4

/-- A status byte: the status code in bits [3:0] (R125), the detail code in bits [6:4] (R126), bit 7 zero
(DESIGN CHOICE, log entry 8: the spec gives the two codes and no byte that holds both). -/
def decodeStatus (b : Byte) : Except Reject Instr :=
  let code := loNibble b
  if code = 3 then
    if b.extractLsb' 7 1 = (1 : BitVec 1) then .error .badStatus
    else match detailOfCode (b.extractLsb' 4 3) with
      | some d => .ok (.statusMalformedAtr d)
      | Option.none => .error .badStatus
  else if hiNibble b != 0 then .error .badStatus
  else if code = 0 then .ok .statusOk
  else if code = 1 then .ok .statusConfigError
  else if code = 2 then .ok .statusNoCardResponse
  else if code = 4 then .ok .statusChecksumError
  else if code = 5 then .ok .statusParityExhausted
  else if code = 6 then .ok .statusCardTimeout
  else if code = 7 then .ok .statusProtocolViolation
  else .error .badStatus

/-- A one-byte format read off the front of the bytes. -/
def decodeOne (f : Byte → Except Reject Instr) : List Byte → Decoded
  | [] => .error .noBytes
  | b :: rest =>
    match f b with
    | .ok i => .ok (i, rest)
    | .error r => .error r

/-- The decoder: the instruction the bytes hold in a space, and the bytes after it. -/
def decode (sp : Space) (bs : List Byte) : Decoded :=
  match sp with
  | .command => decodeCommand bs
  | .header => decodeHeader bs
  | .proc ins => decodeOne (fun pb => .ok (classifyProc ins pb)) bs
  | .atr role => decodeOne (decodeAtrByte role) bs
  | .status => decodeOne decodeStatus bs
  | .micro => .error .noFormat

/-! ## The encoder, from the same tables -/

/-- The bytes of a well-formed instruction; a micro-operation has none. -/
def encode : Instr → List Byte
  | .init c => 0x01 :: cfgBytes (cfgToWord c)
  | .deriveTiming d => 0x02 :: dtBytes (dtToWord d)
  | .coldReset => [0x03]
  | .warmReset => [0x04]
  | .transfer cla ins p1 p2 p3 => [0x05, cla, ins, p1, p2, p3]
  | .transferD cla ins p1 p2 p3 data =>
    [0x0D, cla, ins, p1, p2, p3, BitVec.ofNat 8 data.length] ++ data
  | .decodeAtr raw => [0x06, BitVec.ofNat 8 raw.length] ++ raw
  | .reservedOp0 rest => [rest ++ (0 : BitVec 3)]
  | .reservedOp7 rest => [rest ++ (7 : BitVec 3)]
  | .tpduHdr cla ins p1 p2 p3 => [cla, ins, p1, p2, p3]
  | .procNull => [Config.nullByte]
  | .procAck pb => [pb]
  | .procAckInv pb => [pb]
  | .procSw1 sw1 => [sw1]
  | .atrTsDirect => [0x3B]
  | .atrTsInverse => [0x3F]
  | .atrT0 y1 k => [joinNibbles y1 k]
  | .atrTd y t => [joinNibbles y t]
  | .atrTck tck => [tck]
  | .txChar _ => []
  | .rxChar _ _ => []
  | .statusOk => [0x00]
  | .statusConfigError => [0x01]
  | .statusNoCardResponse => [0x02]
  | .statusMalformedAtr d => [(0 : BitVec 1) ++ d.code ++ (3 : BitVec 4)]
  | .statusChecksumError => [0x04]
  | .statusParityExhausted => [0x05]
  | .statusCardTimeout => [0x06]
  | .statusProtocolViolation => [0x07]

/-- A space in which an instruction's bytes are read as that instruction. A procedure byte's class depends on
INS: ACK against itself, its complement for the inverted form, any other INS for SW1. -/
def Instr.space : Instr → Space
  | .init _ => .command
  | .deriveTiming _ => .command
  | .coldReset => .command
  | .warmReset => .command
  | .transfer _ _ _ _ _ => .command
  | .transferD _ _ _ _ _ _ => .command
  | .decodeAtr _ => .command
  | .reservedOp0 _ => .command
  | .reservedOp7 _ => .command
  | .tpduHdr _ _ _ _ _ => .header
  | .procNull => .proc 0
  | .procAck pb => .proc pb
  | .procAckInv pb => .proc (~~~pb)
  | .procSw1 sw1 => .proc (sw1 ^^^ 1)
  | .atrTsDirect => .atr .ts
  | .atrTsInverse => .atr .ts
  | .atrT0 _ _ => .atr .t0
  | .atrTd _ _ => .atr .td
  | .atrTck _ => .atr .tck
  | .txChar _ => .micro
  | .rxChar _ _ => .micro
  | .statusOk => .status
  | .statusConfigError => .status
  | .statusNoCardResponse => .status
  | .statusMalformedAtr _ => .status
  | .statusChecksumError => .status
  | .statusParityExhausted => .status
  | .statusCardTimeout => .status
  | .statusProtocolViolation => .status

/-- Whether an instruction is one the host presents at the command port (30_encoding.md R101, R102). -/
def Instr.isCommand (i : Instr) : Bool := i.space == .command

/-! ## The assembler syntax's defaults -/

/-- The `init` line of the assembler syntax: the fields in square brackets take the values R129 shows when
they are left out. -/
def asmInit (order : BitVec 1) (clk : BitVec 32) (fi : BitVec 16) (di tg : BitVec 8)
    (proto : BitVec 4 := 0) (clkSel : BitVec 2 := 0) (charLen : BitVec 4 := 8) (parity : BitVec 2 := 0)
    (stop : BitVec 2 := 2) (nack : BitVec 2 := 0) (iter : BitVec 8 := Config.maxIterDefault) : CfgArg :=
  { protocol := proto, clkSel := clkSel, charLen := charLen, parity := parity, stopBits := stop,
    bitOrder := order, nackInhibit := nack, reserved := 0, maxIterations := iter, targetClockHz := clk,
    fi := fi, di := di, timeGuardEtu := tg }

/-! ## The words of spec/opcode_table.json -/

/-- The bytes of a table word of `n` bytes: bit 0 is the least significant bit of the first byte. -/
def wordBytes : Nat → Nat → List Byte
  | 0, _ => []
  | n + 1, w => BitVec.ofNat 8 w :: wordBytes n (w / 256)

/-- Bytes of the longest command, `TRANSFER.D` with 255 data bytes (R128). -/
def longestCommand : Nat := 262

/-- A table word of `nbits` bits as presented at the command port, with zeros after it up to the longest
command. -/
def tableBytes (nbits w : Nat) : List Byte :=
  let bs := wordBytes ((nbits + 7) / 8) w
  bs ++ List.replicate (longestCommand - bs.length) 0

/-- The command a table word is, with the bytes it takes. -/
def tableCommand (nbits w : Nat) : Option (Instr × List Byte) :=
  match decodeCommand (tableBytes nbits w) with
  | .ok (i, rest) => some (i, (tableBytes nbits w).take ((tableBytes nbits w).length - rest.length))
  | .error _ => Option.none

/-- The line format a single table byte fixes in full: NULL (R111) and the two values of TS (R116). -/
def tableLineByte (w : Nat) : Option Instr :=
  if w = 0x60 then some .procNull
  else if w = 0x3B then some .atrTsDirect
  else if w = 0x3F then some .atrTsInverse
  else Option.none

/-- The instruction of a table word (log entry 8: the table's rows of 8 bits or fewer share values, because
they stand in different spaces). 40 bits are a `TPDU_HDR`, CLA in [39:32] (R100); 4 bits a status code; a byte
that NULL or TS fixes in full is that line format, and any other byte, or a longer word, a host command. -/
def decodeTableWord (nbits w : Nat) : Option Instr :=
  if nbits = 0 then Option.none
  else if nbits = 40 then
    let v : BitVec 40 := BitVec.ofNat 40 w
    some (.tpduHdr (byteOf v 4) (byteOf v 3) (byteOf v 2) (byteOf v 1) (byteOf v 0))
  else if nbits = 4 then
    match decodeStatus (BitVec.ofNat 8 w) with
    | .ok i => some i
    | .error _ => Option.none
  else if nbits = 8 ∧ (tableLineByte w).isSome then tableLineByte w
  else (tableCommand nbits w).map Prod.fst

end Sys2Proof
end

