-- ==== Sys2Proof/Machine/Operands.lean ====
section
/-! DEFINITION. How the rules read their operands: registers, with the free value of a register that holds
none (00_scope.md R12, U19), the bytes of a buffer, the case of a transfer (30_encoding.md R104), and times
(40_timing_and_init.md R146). -/

namespace Sys2Proof.Machine

/-- The free value of a site as `w` bits. -/
def freeBits (w : Nat) (site : NoValueSite) (s : State) : BitVec w :=
  BitVec.ofNat w (Config.noValue site s.tick)

/-- `baud_div` (R30). -/
def readBaudDiv (s : State) : BitVec 16 := s.baudDiv.getD (freeBits 16 .baudDiv s)

/-- `cycles(n) = n * baud_div` (R146). -/
def cycles (n : Nat) (s : State) : Nat := n * (readBaudDiv s).toNat

/-- `cfg.nack_inhibit` (R25). -/
def readNackInhibit (s : State) : BitVec 2 :=
  match s.cfg with
  | some c => c.nackInhibit
  | none => freeBits 2 .nackInhibit s

/-- `cfg.nack_inhibit[0]`, `INACK` (43_char_retry.md R226). -/
def inack (s : State) : Bool := (readNackInhibit s).getLsbD 0

/-- `t_mark` (R28). -/
def readTMark (s : State) : Nat := s.tMark.getD (Config.noValue .tMark s.tick)

/-- `atr_deadline` (R28). -/
def readAtrDeadline (s : State) : Nat := s.atrDeadline.getD (Config.noValue .atrDeadline s.tick)

/-- `HDR[0..4]` (R35). -/
def readHdr (s : State) : Header :=
  s.hdr.getD
    { cla := freeBits 8 .cla s, ins := freeBits 8 .ins s, p1 := freeBits 8 .p1 s, p2 := freeBits 8 .p2 s,
      p3 := freeBits 8 .p3 s }

/-- The free case of a site: any of the three (R36). -/
def freeCase (s : State) : XCase :=
  match Config.noValue .xcase s.tick % 3 with
  | 0 => .case1
  | 1 => .case2
  | _ => .case3

/-- `xcase` (R36). -/
def readXcase (s : State) : XCase := s.xcase.getD (freeCase s)

/-- `xfer_deadline` (R41). -/
def readXferDeadline (s : State) : Nat := s.xferDeadline.getD (Config.noValue .xferDeadline s.tick)

/-- `DOUT[i]` (20_memory.md R72). -/
def readDout (i : Nat) (s : State) : Byte := (memRead s.dout i).getD (freeBits 8 (.dout i) s)

/-- The first `n` bytes of the buffer `ATR` (R71). -/
def atrBytes (n : Nat) (s : State) : List Byte :=
  (List.range n).map fun i => (memRead s.atr i).getD (freeBits 8 (.atr i) s)

/-- The first `n` bytes of the buffer `RAW` (R74). -/
def rawBytes (n : Nat) (s : State) : List Byte :=
  (List.range n).map fun i => (memRead s.raw i).getD (freeBits 8 (.raw i) s)

/-- The header byte `HDR[i]`, `i < 5`, in the order sent (30_encoding.md R100). -/
def headerByte (h : Header) (i : Nat) : Byte :=
  match i with
  | 0 => h.cla
  | 1 => h.ins
  | 2 => h.p1
  | 3 => h.p2
  | _ => h.p3

/-- The case of a transfer (R104): P3 = 0 is tested first. -/
def caseOf (dp : Bool) (p3 : Byte) : XCase :=
  if p3 = 0 then .case1 else if dp then .case2 else .case3

/-- Whether a deadline has passed; `none` is no deadline (43_char_retry.md R224, R225). -/
def deadlinePassed (dl : Option Nat) (s : State) : Bool :=
  match dl with
  | none => false
  | some d => decide (d ≤ s.now)

/-- The timeout of one `ChRecv`: `wait`, or what is left to the deadline if that is less (R173, R225). -/
def recvTimeout (wait : Nat) (dl : Option Nat) (s : State) : Nat :=
  match dl with
  | none => wait
  | some d => min wait (d - s.now)

end Sys2Proof.Machine
end

