-- ==== Sys2Proof/Machine/Atr.lean ====
section
/-! DEFINITION. The ATR Decoder: the pure function of 42_atr_decoder.md R191, and the command `DECODE_ATR`. -/

namespace Sys2Proof.Machine

/-- How the decoder's walk ends without a view: a byte it needs is missing (R201, with the role the byte would
have), or one of the errors of R192, R199, R200. -/
inductive AtrStop where
  | needs (role : AtrRole)
  | badTs
  | checksum
  | trailing
deriving DecidableEq, Repr

/-- `take()` (R191): the only way a byte is read. -/
def takeByte (role : AtrRole) : List Byte → Except AtrStop (Byte × List Byte)
  | [] => .error (.needs role)
  | b :: rest => .ok (b, rest)

/-- One interface byte of a group, read when its bit of the bitmap is 1 (R195). -/
def takeIf (present : Bool) (role : AtrRole) (bs : List Byte) : Except AtrStop (Option Byte × List Byte) :=
  if present then
    match takeByte role bs with
    | .ok (b, rest) => .ok (some b, rest)
    | .error e => .error e
  else .ok (none, bs)

/-- The running XOR over a byte that may be absent (R191). -/
def xorIf (x : Byte) : Option Byte → Byte
  | none => x
  | some b => x ^^^ b

/-- One group of interface bytes, in the order TA, TB, TC, TD (R195), with the running XOR. -/
def takeGroup (gi : Nat) (proto : Option (BitVec 4)) (y : BitVec 4) (x : Byte) (bs : List Byte) :
    Except AtrStop (AtrGroup × Byte × List Byte) :=
  match takeIf (y.getLsbD 0) .ta bs with
  | .error e => .error e
  | .ok (ta, bs1) =>
    match takeIf (y.getLsbD 1) .tb bs1 with
    | .error e => .error e
    | .ok (tb, bs2) =>
      match takeIf (y.getLsbD 2) .tc bs2 with
      | .error e => .error e
      | .ok (tc, bs3) =>
        match takeIf (y.getLsbD 3) .td bs3 with
        | .error e => .error e
        | .ok (td, bs4) =>
          .ok ({ index := gi, proto := proto, ta := ta, tb := tb, tc := tc, td := td },
            xorIf (xorIf (xorIf (xorIf x ta) tb) tc) td, bs4)

/-- The loop over the chain of groups (R196, R197): the groups met, whether TCK is needed, the running XOR,
the bytes left. `fuel` bounds the turns; each turn reads a byte, so the number of bytes left and one more is
enough. -/
def takeGroups : Nat → BitVec 4 → Nat → Option (BitVec 4) → Bool → List AtrGroup → Byte → List Byte →
    Except AtrStop (List AtrGroup × Bool × Byte × List Byte)
  | 0, _, _, _, _, _, _, _ => .error (.needs .td)
  | fuel + 1, y, gi, proto, tckNeeded, groups, x, bs =>
    if y = 0 then .ok (groups, tckNeeded, x, bs)
    else
      match takeGroup gi proto y x bs with
      | .error e => .error e
      | .ok (g, x', rest) =>
        match g.td with
        | none => .ok (groups ++ [g], tckNeeded, x', rest)
        | some td =>
          takeGroups fuel (hiNibble td) (gi + 1) (some (loNibble td))
            (tckNeeded || loNibble td != 0) (groups ++ [g]) x' rest

/-- The historical bytes: exactly `k` (R198). -/
def takeHist : Nat → Byte → List Byte → Except AtrStop (List Byte × Byte × List Byte)
  | 0, x, bs => .ok ([], x, bs)
  | k + 1, x, bs =>
    match takeByte .hist bs with
    | .error e => .error e
    | .ok (h, rest) =>
      match takeHist k (x ^^^ h) rest with
      | .error e => .error e
      | .ok (hs, x', rest') => .ok (h :: hs, x', rest')

/-- TCK, read and checked when some TD declared a protocol other than 0 (R199). -/
def takeTck (needed : Bool) (x : Byte) (bs : List Byte) : Except AtrStop (Option Byte × List Byte) :=
  if needed then
    match takeByte .tck bs with
    | .error e => .error e
    | .ok (tck, rest) => if x ^^^ tck != 0 then .error .checksum else .ok (some tck, rest)
  else .ok (none, bs)

/-- The walk after TS and T0 (R194 to R200); `n` is the number of bytes given. -/
def decodeBody (n : Nat) (ts t0 : Byte) (bs : List Byte) : Except AtrStop AtrView :=
  match takeGroups (bs.length + 1) (hiNibble t0) 1 none false [] t0 bs with
  | .error e => .error e
  | .ok (groups, tckNeeded, x, bs1) =>
    match takeHist (loNibble t0).toNat x bs1 with
    | .error e => .error e
    | .ok (hist, x', bs2) =>
      match takeTck tckNeeded x' bs2 with
      | .error e => .error e
      | .ok (tck, bs3) =>
        if bs3.length != 0 then .error .trailing
        else .ok { ts := ts, convention := if ts = 0x3F then 1 else 0, t0 := t0, k := loNibble t0,
                   y1 := hiNibble t0, groups := groups, hist := hist, tckPresent := tckNeeded, tck := tck,
                   len := BitVec.ofNat 8 n }

/-- `decode(B, n)` on the bytes `B[0 .. n-1]` (R191): a pure function (R204). -/
def decodeAtr (bs : List Byte) : Except AtrStop AtrView :=
  match takeByte .ts bs with
  | .error e => .error e
  | .ok (ts, bs1) =>
    if ts != 0x3B && ts != 0x3F then .error .badTs
    else
      match takeByte .t0 bs1 with
      | .error e => .error e
      | .ok (t0, bs2) => decodeBody bs.length ts t0 bs2

/-- The role the next byte would have after these (R115), when the structure they declare is not complete. -/
def nextRole (bs : List Byte) : Option AtrRole :=
  match decodeAtr bs with
  | .error (.needs role) => some role
  | .error .badTs => none
  | .error .checksum => none
  | .error .trailing => none
  | .ok _ => none

/-- The effect of an accepted `DECODE_ATR`, its acceptance done and `RAW` filled (R190). No time passes (DESIGN
CHOICE, log entry 17). -/
def runDecodeAtr (s : State) : State :=
  match decodeAtr (rawBytes s.rawLen.toNat s) with
  | .ok view => respond .ok .none { s with decd := some view }
  | .error (.needs _) => raiseMalformedAtr .truncated s
  | .error .badTs => raiseMalformedAtr .badTs s
  | .error .trailing => raiseMalformedAtr .trailing s
  | .error .checksum => raiseChecksumError s

/-- The copy of the argument into `RAW` at acceptance (R190, 20_memory.md R74). -/
def loadRaw (bs : List Byte) (s : State) : State :=
  { s with raw := memOfBytes bs, rawLen := BitVec.ofNat 8 bs.length }

/-- `DECODE_ATR` (R190): one step; refused while busy (R107) or with more than `ATR_MAX` bytes (R105 e). -/
def execDecodeAtr (bs : List Byte) (s : State) : Result :=
  if accepts .decodeAtr s && decide (bs.length ≤ Config.atrMax) then
    .next (runDecodeAtr (loadRaw bs (begin .decodeAtr s)))
  else .next s

end Sys2Proof.Machine
end

