-- ==== Sys2Proof/Machine/Reset.lean ====
section
/-! DEFINITION. The Reset Sequencer and ATR acquisition: `COLD_RESET`, `WARM_RESET`, and the ATR characters as
the sequencer captures them (41_reset_sequencer.md). -/

namespace Sys2Proof.Machine

/-! ## Acceptance -/

/-- The op code of a kind of reset (R162). -/
def resetOp : ResetKind → Op
  | .cold => .coldReset
  | .warm => .warmReset

/-- The first line of a kind of reset (R164, R167). -/
def resetEntry : ResetKind → Contact
  | .cold => .coldRstLow
  | .warm => .warmRstLow

/-- The acceptance of either reset command (R162); `ATR` beyond `atr_len = 0` holds no value (20_memory.md
R71). -/
def acceptReset (kind : ResetKind) (s : State) : State :=
  { begin (resetOp kind) s with
    owner := .rs, rsKind := kind, rsState := .idle,
    atr := [], atrLen := 0, atrValid := false, atrd := none, sessState := .ready,
    todo := .contact (resetEntry kind), char := .fresh, midStep := false }

/-- A reset command: refused (R106), or accepted, the transfer in flight abandoned first (60_exceptions.md
R296). -/
def resetCommand (kind : ResetKind) (s : State) : State :=
  if accepts (resetOp kind) s then
    acceptReset kind (if transferInFlight s then dropTransfer s else s)
  else s

/-- `COLD_RESET` (R161). -/
def execColdReset (s : State) : Result := .next (resetCommand .cold s)

/-- `WARM_RESET` (R163). -/
def execWarmReset (s : State) : Result := .next (resetCommand .warm s)

/-! ## The contacts and the windows -/

/-- One line of the sequencer's pseudocode that makes a contact primitive, a wait or a flush, with the register
updates before it (00_scope.md R13). The two waits are none of the primitives of R10 and end no step (log entry 18), and
the last two lines make no primitive. -/
def runContact (c : Contact) (s : State) : State :=
  match c with
  | .coldRstLow => continueAt (.contact .coldClkOff) (chRst false s)
  | .coldClkOff => continueAt (.contact .coldVccOff) (chClk false s)
  | .coldVccOff => continueAt (.contact .coldVccOn) (chVcc false s)
  | .coldVccOn => continueAt (.contact .vccWait) (chVcc true s)
  | .vccWait =>
    continueAt (.contact .clkOn)
      (waitUntil (s.now + Config.vccStableCycles) { s with tMark := some s.now, rsState := .vccStable })
  | .clkOn => continueAt (.contact .clkRstLow) (chClk true s)
  | .clkRstLow => continueAt (.contact .holdWait) (chRst false { s with rsState := .clockStarted })
  | .warmRstLow => continueAt (.contact .holdWait) (chRst false s)
  | .holdWait =>
    continueAt (.contact .resetFlush)
      (waitUntil (s.now + (Config.rstHoldCycles : Nat)) { s with tMark := some s.now, rsState := .rstAsserted })
  | .resetFlush => continueAt (.contact .rstHigh) (chFlush s)
  | .rstHigh => continueAt (.contact .released) (chRst true s)
  | .released => goto (.contact .openWindow) { s with tMark := some s.now, rsState := .rstReleased }
  | .openWindow =>
    goto (.micro (.rxChar Config.atrWindowCycles (some (readTMark s + Config.atrWindowCycles))))
      { s with atrDeadline := some (readTMark s + Config.atrWindowCycles), rsState := .atrWindowOpen }

/-! ## The capture -/

/-- The wait for an ATR character after the first (R175). -/
def awaitAtrChar (s : State) : State :=
  goto (.micro (.rxChar (cycles Config.atrCharTimeoutEtu s) none)) s

/-- The progress test after an append (R177, R178, R179, R181). -/
def atrProgress (s : State) : State :=
  match decodeAtr (atrBytes s.atrLen.toNat s) with
  | .ok view => goto (.micro .statusOk) { s with atrd := some view, atrValid := true, sessState := .active }
  | .error (.needs _) =>
    if s.atrLen.toNat < Config.atrMax then awaitAtrChar s else goto (.micro (.statusMalformedAtr .truncated)) s
  | .error .badTs => goto (.micro (.statusMalformedAtr .badTs)) s
  | .error .checksum => goto (.micro .statusChecksumError) s
  | .error .trailing => goto (.micro (.statusMalformedAtr .trailing)) s

/-- A captured character: the append (R176), `AtrCaptured` (R172), the progress test (R177). An append past
`ATR_MAX` does not exist (R71). -/
def captureAtr (b : Byte) (s : State) : Result :=
  match memStore Config.atrMax s.atr s.atrLen.toNat b with
  | some m => .next (atrProgress { s with atr := m, atrLen := s.atrLen + 1, rsState := .atrCaptured })
  | none => .fault .bufferRange

/-- `ATR_TS.DIRECT` (30_encoding.md R116): the character 0x3B captured. -/
def execAtrTsDirect (s : State) : Result := captureAtr 0x3B s

/-- `ATR_TS.INVERSE` (R116): the character 0x3F captured; the convention is recorded, not acted on
(42_atr_decoder.md R193). -/
def execAtrTsInverse (s : State) : Result := captureAtr 0x3F s

/-- `ATR_T0` (R117): the format byte captured. -/
def execAtrT0 (y1 k : BitVec 4) (s : State) : Result := captureAtr (joinNibbles y1 k) s

/-- `ATR_TD` (R119): an interface byte TD captured. -/
def execAtrTd (y t : BitVec 4) (s : State) : Result := captureAtr (joinNibbles y t) s

/-- `ATR_TCK` (R121): the check byte captured. -/
def execAtrTck (tck : Byte) (s : State) : Result := captureAtr tck s

/-- What a received character is to the capture: the row of its format, by its place in the structure (R115),
or a character that has none. -/
def atrRow (b : Byte) (s : State) : Todo :=
  match nextRole (atrBytes s.atrLen.toNat s) with
  | some role =>
    match decodeAtrByte role b with
    | .ok i => .micro i
    | .error _ => .capture b
  | none => .capture b

/-! ## The results of a reception -/

/-- The first ATR character has ended with the window over: it did not come inside it (R172, R174,
70_reset_and_hazards.md R340), which is the result `Timeout`. The pseudocode of R172 makes no such test (DESIGN CHOICE,
log entry 21). -/
def firstTooLate (s : State) : Bool := s.rsState == .atrWindowOpen && decide (readAtrDeadline s ≤ s.now)

/-- `RX_CHAR` gave the sequencer `Timeout`: no card in the window (R172, R174), or a card that stopped (R178); the
latter also in a state in which no rule called it (log entry 14). -/
def atrTimeout (s : State) : State :=
  match s.rsState with
  | .atrWindowOpen => goto (.micro .statusNoCardResponse) { s with rsState := .atrTimeout }
  | .idle => goto (.micro (.statusMalformedAtr .truncated)) s
  | .vccStable => goto (.micro (.statusMalformedAtr .truncated)) s
  | .clockStarted => goto (.micro (.statusMalformedAtr .truncated)) s
  | .rstAsserted => goto (.micro (.statusMalformedAtr .truncated)) s
  | .rstReleased => goto (.micro (.statusMalformedAtr .truncated)) s
  | .atrCaptured => goto (.micro (.statusMalformedAtr .truncated)) s
  | .atrTimeout => goto (.micro (.statusMalformedAtr .truncated)) s

/-- `RX_CHAR` gave the sequencer a character (R172, R175), the first one in time or too late (R340). -/
def atrByte (b : Byte) (s : State) : State :=
  if firstTooLate s then atrTimeout s else goto (atrRow b s) s

/-- `RX_CHAR` gave the sequencer `Exhausted` (R172, R180), whenever that is; the same in a state in which no rule
called it (log entry 14). -/
def atrExhausted (s : State) : State :=
  goto (.micro (.statusMalformedAtr .parity)) { s with rsState := .atrCaptured }

end Sys2Proof.Machine
end

