-- ==== Sys2Proof/Machine/Transfer.lean ====
section
/-! DEFINITION. The TPDU Transfer Engine: `TRANSFER`, the header, the procedure byte and the data phases
(44_tpdu_transfer.md). -/

namespace Sys2Proof.Machine

/-! ## Acceptance -/

/-- The acceptance of a transfer (R241), its flush (R242) next. -/
def acceptTransfer (h : Header) (dp : Bool) (data : List Byte) (s : State) : State :=
  { begin .transfer s with
    owner := .xfer, hdr := some h, xcase := some (caseOf dp h.p3),
    dout := memOfBytes data, doutLen := BitVec.ofNat 8 data.length,
    rspLen := 0, rsp := [], sw1 := none, sw2 := none,
    xferDeadline := some (s.now + cycles Config.xferTimeoutEtu s),
    idx := 0, xferState := .sendHeader, todo := .flush, char := .fresh, midStep := false }

/-- `TRANSFER` with `dp = 0` (R240): accepted in `S_ACTIVE` when not busy, else refused (30_encoding.md R107). -/
def execTransfer (cla ins p1 p2 p3 : Byte) (s : State) : Result :=
  if accepts .transfer s then
    .next (acceptTransfer { cla := cla, ins := ins, p1 := p1, p2 := p2, p3 := p3 } false [] s)
  else .next s

/-- `TRANSFER` with `dp = 1` (R240): refused also when the data are not P3 bytes (30_encoding.md R105 c). -/
def execTransferD (cla ins p1 p2 p3 : Byte) (data : List Byte) (s : State) : Result :=
  if accepts .transfer s && data.length == p3.toNat then
    .next (acceptTransfer { cla := cla, ins := ins, p1 := p1, p2 := p2, p3 := p3 } true data s)
  else .next s

/-! ## The waits and the loops -/

/-- The wait for a procedure byte: the work waiting time, and the overall deadline (R244). -/
def awaitProcedureByte (s : State) : State :=
  goto (.micro (.rxChar (cycles Config.wwtEtu s) (some (readXferDeadline s)))) s

/-- The wait for a data or status byte: the work waiting time alone (R247, R249, R250). -/
def awaitCardByte (s : State) : State :=
  goto (.micro (.rxChar (cycles Config.wwtEtu s) none)) s

/-- The header registers as the row `TPDU_HDR` (30_encoding.md R100). -/
def headerInstr (h : Header) : Instr := .tpduHdr h.cla h.ins h.p1 h.p2 h.p3

/-- `TPDU_HDR`: the loop head of `SendHeader` (R243), the next header byte to `TX_CHAR` or, after the fifth, on
to the procedure byte. -/
def execTpduHdr (cla ins p1 p2 p3 : Byte) (s : State) : Result :=
  if s.idx.toNat < Config.hdrLen then
    .next (goto (.micro (.txChar (headerByte { cla := cla, ins := ins, p1 := p1, p2 := p2, p3 := p3 } s.idx.toNat))) s)
  else .next (awaitProcedureByte { s with xferState := .awaitProcedureByte })

/-- The first step of a transfer, `ChFlush()` (R242), then the header. -/
def runFlush (s : State) : State := continueAt (.micro (headerInstr (readHdr s))) (chFlush s)

/-- The loop head of `DataOut` (R248): the next data byte to `TX_CHAR`, or SW1 (R250). -/
def dataOutLoop (s : State) : State :=
  if s.idx.toNat < (readHdr s).p3.toNat then goto (.micro (.txChar (readDout s.idx.toNat s))) s
  else awaitCardByte s

/-- The loop head of `DataIn` (R249): the next data byte, or `rsp_len` and then SW1 (R250). -/
def dataInLoop (s : State) : State :=
  if s.idx.toNat < (readHdr s).p3.toNat then awaitCardByte s
  else awaitCardByte { s with rspLen := (readHdr s).p3 }

/-! ## The procedure byte -/

/-- `PROC.NULL`: remain in the state and wait again (R245). -/
def execProcNull (s : State) : Result := .next (awaitProcedureByte s)

/-- The reaction to ACK by the case (R245, R246, R248, R249). -/
def ackReaction (s : State) : State :=
  match readXcase s with
  | .case1 => goto (.micro .statusProtocolViolation) s
  | .case2 => dataOutLoop { s with idx := 0, xferState := .dataOut }
  | .case3 => dataInLoop { s with idx := 0, xferState := .dataIn }

/-- `PROC.ACK`, the byte equal to INS (R112, R245). The byte itself is not used further. -/
def execProcAck (_pb : Byte) (s : State) : Result := .next (ackReaction s)

/-- `PROC.ACK_INV`, the byte equal to `~INS`: the same class and the same reaction (R112). -/
def execProcAckInv (_pb : Byte) (s : State) : Result := .next (ackReaction s)

/-- `PROC.SW1`: the byte is SW1, and SW2 follows (R245, R247). -/
def execProcSw1 (sw1 : Byte) (s : State) : Result := .next (awaitCardByte { s with sw1 := some sw1 })

/-! ## The results of a transmission and of a reception -/

/-- `TX_CHAR` gave `Ok`: the next character of the phase (R243, R248). In any other state no rule calls
`TX_CHAR` (43_char_retry.md R221) and nothing follows (log entry 14). -/
def sentByte (s : State) : State :=
  match s.xferState with
  | .sendHeader => goto (.micro (headerInstr (readHdr s))) { s with idx := s.idx + 1 }
  | .dataOut => dataOutLoop { s with idx := s.idx + 1 }
  | .idle => goto .idle s
  | .awaitProcedureByte => goto .idle s
  | .dataIn => goto .idle s
  | .complete => goto .idle s

/-- `TX_CHAR` gave `Exhausted` (R252); the same in a state in which no rule called it (log entry 14). -/
def sendExhausted (s : State) : State := goto (.micro .statusParityExhausted) s

/-- SW2 has been received: the Response is complete (R247, R248, R249). -/
def statusComplete (b : Byte) (s : State) : State :=
  goto (.micro .statusOk) { s with sw2 := some b, xferState := .complete }

/-- A status byte after a data phase, unclassified: SW1, then SW2 (R250). Which of the two comes is told by whether
`sw1` holds a value (DESIGN CHOICE, log entry 19). -/
def statusByte (b : Byte) (s : State) : State :=
  match s.sw1 with
  | none => awaitCardByte { s with sw1 := some b }
  | some _ => statusComplete b s

/-- A character in `AwaitProcedureByte`: the procedure byte (R244, R245), or SW2 once SW1 is known (R247),
which is told by whether `sw1` holds a value (DESIGN CHOICE, log entry 19). -/
def procedureByte (b : Byte) (s : State) : State :=
  match s.sw1 with
  | none => goto (.micro (classifyProc (readHdr s).ins b)) s
  | some _ => statusComplete b s

/-- A character in `DataIn`: data while fewer than P3 have come (R249), then status (R250). An index outside
`RSP` does not exist (20_memory.md R73). -/
def dataInByte (b : Byte) (s : State) : Result :=
  if s.idx.toNat < (readHdr s).p3.toNat then
    match memStore Config.dataMax s.rsp s.idx.toNat b with
    | some m => .next (dataInLoop { s with rsp := m, idx := s.idx + 1 })
    | none => .fault .bufferRange
  else .next (statusByte b s)

/-- `RX_CHAR` gave a transfer a character (R244, R247, R249, R250). In any other state no rule calls `RX_CHAR`
(43_char_retry.md R224) and nothing follows (log entry 14). -/
def xferByte (b : Byte) (s : State) : Result :=
  match s.xferState with
  | .awaitProcedureByte => .next (procedureByte b s)
  | .dataOut => .next (statusByte b s)
  | .dataIn => dataInByte b s
  | .idle => .next (goto .idle s)
  | .sendHeader => .next (goto .idle s)
  | .complete => .next (goto .idle s)

/-- `RX_CHAR` gave a transfer `Timeout` (R253); the same in a state in which no rule called it (log entry 14). -/
def xferTimeout (s : State) : State := goto (.micro .statusCardTimeout) s

/-- `RX_CHAR` gave a transfer `Exhausted` (R252); the same in a state in which no rule called it (log entry 14). -/
def xferExhausted (s : State) : State := goto (.micro .statusParityExhausted) s

/-- What the end of a transfer clears (R251). -/
def retireTransfer (s : State) : State :=
  { s with xferState := .idle, hdr := none, xcase := none, dout := [], doutLen := 0 }

end Sys2Proof.Machine
end

