-- ==== Sys2Proof/Machine/Char.lean ====
section
/-! DEFINITION. The character/parity retry controller: `TX_CHAR` and `RX_CHAR` (43_char_retry.md). Each call of
a meaning makes one pass of the algorithm's loop, up to its next channel primitive or its return; where it
stands is `State.char` (log entry 4). -/

namespace Sys2Proof.Machine

/-- One `ChSend` of `TX_CHAR` (R222). -/
def trySend (b : Byte) (s : State) : State := continueAt (.micro (.txChar b)) (chSend b s)

/-- `TX_CHAR(b)` (R222): the first sending with `retry <- 0`; on `TxOk` the return `Ok`; on `TxNack` the return
`Exhausted` with the budget spent, else one more retry of the same byte. -/
def execTxChar (b : Byte) (s : State) : Result :=
  match s.char with
  | .sent false => .next (sentByte s)
  | .sent true =>
    if s.retry = s.cfgMaxIterations then .next (sendExhausted s)
    else .next (trySend b { s with retry := s.retry + 1 })
  | .fresh => .next (trySend b { s with retry := 0 })
  | .got _ => .next (trySend b { s with retry := 0 })
  | .nacked => .next (trySend b { s with retry := 0 })

/-- `RX_CHAR` returns `Byte(b)` to its caller, the owner of the channel (10_state.md R23). Without one nothing
follows (log entry 14). -/
def rxByte (b : Byte) (s : State) : Result :=
  match s.owner with
  | .rs => .next (atrByte b s)
  | .xfer => xferByte b s
  | .none => .next (goto .idle s)

/-- `RX_CHAR` returns `Timeout` to its caller. -/
def rxTimeout (s : State) : State :=
  match s.owner with
  | .rs => atrTimeout s
  | .xfer => xferTimeout s
  | .none => goto .idle s

/-- `RX_CHAR` returns `Exhausted` to its caller (R232). -/
def rxExhausted (s : State) : State :=
  match s.owner with
  | .rs => atrExhausted s
  | .xfer => xferExhausted s
  | .none => goto .idle s

/-- The head of the loop of `RX_CHAR` (R225): the deadline first, then one `ChRecv`. -/
def tryRecv (wait : Nat) (dl : Option Nat) (s : State) : State :=
  if deadlinePassed dl s then rxTimeout s
  else continueAt (.micro (.rxChar wait dl)) (chRecv (recvTimeout wait dl s) s)

/-- The error signal, and the next try after it (R225). -/
def nackAndRetry (wait : Nat) (dl : Option Nat) (s : State) : State :=
  { continueAt (.micro (.rxChar wait dl)) (chNack { s with retry := s.retry + 1 }) with char := .nacked }

/-- `RX_CHAR(wait, dl)` (R225, R226): the first try with `retry <- 0`; what each answer of `ChRecv` leads to;
the next try after a `ChNack`. The deadline is tested before a `ChRecv` and not after it; a first ATR character that ends
after the window is the sequencer's to turn away (`firstTooLate`). -/
def execRxChar (wait : Nat) (dl : Option Nat) (s : State) : Result :=
  match s.char with
  | .got (.byte b) => rxByte b s
  | .got .timeout => .next (rxTimeout s)
  | .got (.parity b) =>
    if inack s then rxByte b s
    else if s.retry = s.cfgMaxIterations then .next (rxExhausted s)
    else .next (nackAndRetry wait dl s)
  | .nacked => .next (tryRecv wait dl s)
  | .fresh => .next (tryRecv wait dl { s with retry := 0 })
  | .sent _ => .next (tryRecv wait dl { s with retry := 0 })

end Sys2Proof.Machine
end

