-- ==== Sys2Proof/Machine/Status.lean ====
section
/-! DEFINITION. The responses: the rows `STATUS.*`, each the `respond` or the `raise` of its kind, in one step
(60_exceptions.md R285 to R293), and the reserved command bytes, which are refused (30_encoding.md R127). -/

namespace Sys2Proof.Machine

/-- What success changes besides the response: a transfer retires (44_tpdu_transfer.md R251); a reset has
written its ATR before (41_reset_sequencer.md R181). -/
def retireCommand (s : State) : State :=
  match s.curOp with
  | .transfer => retireTransfer s
  | .none => s
  | .init => s
  | .deriveTiming => s
  | .coldReset => s
  | .warmReset => s
  | .decodeAtr => s

/-- `STATUS.OK`: `respond(OK)` (R286). -/
def execStatusOk (s : State) : Result := .next (respond .ok .none (retireCommand s))

/-- `STATUS.ConfigError` (R287). -/
def execStatusConfigError (s : State) : Result := .next (raiseConfigError s)

/-- `STATUS.NoCardResponse` (R288). -/
def execStatusNoCardResponse (s : State) : Result := .next (raiseNoCardResponse s)

/-- `STATUS.MalformedAtr` with its detail (R289, 30_encoding.md R126). -/
def execStatusMalformedAtr (d : Detail) (s : State) : Result := .next (raiseMalformedAtr d s)

/-- `STATUS.ChecksumError` (R289). -/
def execStatusChecksumError (s : State) : Result := .next (raiseChecksumError s)

/-- `STATUS.ParityExhausted` (R290, R291). -/
def execStatusParityExhausted (s : State) : Result := .next (raiseTransferError .parityExhausted s)

/-- `STATUS.CardTimeout` (R292, R291). -/
def execStatusCardTimeout (s : State) : Result := .next (raiseTransferError .cardTimeout s)

/-- `STATUS.ProtocolViolation` (R293, R291). -/
def execStatusProtocolViolation (s : State) : Result := .next (raiseTransferError .protocolViolation s)

/-- A command byte with the reserved op code 0: refused, so nothing changes (R127, R106). -/
def execReservedOp0 (_rest : BitVec 5) (s : State) : Result := .next s

/-- A command byte with the reserved op code 7: refused, so nothing changes (R127, R106). -/
def execReservedOp7 (_rest : BitVec 5) (s : State) : Result := .next s

end Sys2Proof.Machine
end

