-- ==== Sys2Proof/Machine/Timing.lean ====
section
/-! DEFINITION. The Timing Engine and session initialisation: `DERIVE_TIMING` and `INIT`
(40_timing_and_init.md). -/

namespace Sys2Proof.Machine

/-- The divisor: Fi/Di rounded to the nearest whole number, a tie going up (R142). -/
def divisor (fi : BitVec 16) (di : BitVec 8) : Nat := (2 * fi.toNat + di.toNat) / (2 * di.toNat)

/-- The guard time in ticks, 9 bits (R143). -/
def guardTime (tg : BitVec 8) : BitVec 9 := BitVec.ofNat 9 (tg.toNat + Config.minGuardEtu)

/-- `derive` is `Invalid` (R144, R145). -/
def deriveInvalid (fi : BitVec 16) (di : BitVec 8) (hz : BitVec 32) : Bool :=
  di == 0 || fi == 0 || decide (divisor fi di < Config.divMin) || decide (Config.divMax < divisor fi di) || hz == 0

/-- `derive(fi, di, hz, tg)`: the divisor and the guard time, or `none` for `Invalid` (R142 to R145). -/
def derive (fi : BitVec 16) (di : BitVec 8) (hz : BitVec 32) (tg : BitVec 8) :
    Option (BitVec 16 × BitVec 9) :=
  if deriveInvalid fi di hz then none else some (BitVec.ofNat 16 (divisor fi di), guardTime tg)

/-- The effect of an accepted `DERIVE_TIMING`, its acceptance done (R141). No time passes (DESIGN CHOICE, log
entry 17). -/
def runDeriveTiming (d : DtArg) (s : State) : State :=
  match derive d.fi d.di d.targetClockHz d.timeGuardEtu with
  | none => raiseConfigError s
  | some (b, g) => respond .ok .none { s with resBaudDiv := some b, resGuardTicks := some g }

/-- `DERIVE_TIMING` (R141): one step; refused while busy (R106, R107). -/
def execDeriveTiming (d : DtArg) (s : State) : Result :=
  if accepts .deriveTiming s then .next (runDeriveTiming d (begin .deriveTiming s)) else .next s

/-- The tests of `INIT` on the fields with one legal value (R149). -/
def cfgLegal (c : CfgArg) : Bool :=
  c.reserved == 0 && c.protocol == 0 && c.charLen == 8 && c.parity == 0 && c.stopBits == 2

/-- The fields `cfg.*` of an `INIT` argument but `max_iterations` (R150). -/
def cfgOfArg (c : CfgArg) : SessionConfig :=
  { protocol := c.protocol, clkSel := c.clkSel, charLen := c.charLen, parity := c.parity,
    stopBits := c.stopBits, bitOrder := c.bitOrder, nackInhibit := c.nackInhibit,
    targetClockHz := c.targetClockHz, fi := c.fi, di := c.di, timeGuardEtu := c.timeGuardEtu }

/-- The line settings `INIT` hands to the channel (R150, 20_memory.md R80). -/
def lineSettings (c : CfgArg) (b : BitVec 16) (g : BitVec 9) : LineSettings :=
  { baudDiv := b, guardTicks := g, clkSel := c.clkSel, targetClockHz := c.targetClockHz,
    charLen := c.charLen, parity := c.parity, stopBits := c.stopBits, bitOrder := c.bitOrder,
    nackInhibit := c.nackInhibit }

/-- A successful `INIT`: the new session replaces the old one whole (R150, R151). The contacts keep their
values. `ATR` beyond `atr_len = 0` holds no value (20_memory.md R71). -/
def startSession (c : CfgArg) (b : BitVec 16) (g : BitVec 9) (s : State) : State :=
  chApply (lineSettings c b g)
    { s with cfg := some (cfgOfArg c), cfgMaxIterations := c.maxIterations,
             baudDiv := some b, guardTicks := some g, resBaudDiv := some b, resGuardTicks := some g,
             atr := [], atrLen := 0, atrValid := false, atrd := none,
             rsState := .idle, sessState := .ready }

/-- The effect of an accepted `INIT`, its acceptance done (R149, R150, R152). -/
def runInit (c : CfgArg) (s : State) : State :=
  if cfgLegal c then
    match derive c.fi c.di c.targetClockHz c.timeGuardEtu with
    | none => raiseConfigError s
    | some (b, g) => respond .ok .none (startSession c b g s)
  else raiseConfigError s

/-- `INIT` (R149): one step; refused while busy (R106, R107). -/
def execInit (c : CfgArg) (s : State) : Result :=
  if accepts .init s then .next (runInit c (begin .init s)) else .next s

end Sys2Proof.Machine
end

