-- ==== Sys2Proof/Machine/Dispatch.lean ====
section
/-! DEFINITION. The dispatch: one arm per row of spec/opcode_table.json, each one direct call of its meaning. -/

namespace Sys2Proof.Machine

open Sys2Proof

-- the meaning of an instruction in a state
def exec (i : Instr) (s : State) : Host.Outcome State Fault Refusal :=
  match i with
  | .init c => Sys2Proof.Machine.execInit c s
  | .deriveTiming d => Sys2Proof.Machine.execDeriveTiming d s
  | .coldReset => Sys2Proof.Machine.execColdReset s
  | .warmReset => Sys2Proof.Machine.execWarmReset s
  | .transfer cla ins p1 p2 p3 => Sys2Proof.Machine.execTransfer cla ins p1 p2 p3 s
  | .transferD cla ins p1 p2 p3 data => Sys2Proof.Machine.execTransferD cla ins p1 p2 p3 data s
  | .decodeAtr raw => Sys2Proof.Machine.execDecodeAtr raw s
  | .reservedOp0 rest => Sys2Proof.Machine.execReservedOp0 rest s
  | .reservedOp7 rest => Sys2Proof.Machine.execReservedOp7 rest s
  | .tpduHdr cla ins p1 p2 p3 => Sys2Proof.Machine.execTpduHdr cla ins p1 p2 p3 s
  | .procNull => Sys2Proof.Machine.execProcNull s
  | .procAck pb => Sys2Proof.Machine.execProcAck pb s
  | .procAckInv pb => Sys2Proof.Machine.execProcAckInv pb s
  | .procSw1 sw1 => Sys2Proof.Machine.execProcSw1 sw1 s
  | .atrTsDirect => Sys2Proof.Machine.execAtrTsDirect s
  | .atrTsInverse => Sys2Proof.Machine.execAtrTsInverse s
  | .atrT0 y1 k => Sys2Proof.Machine.execAtrT0 y1 k s
  | .atrTd y t => Sys2Proof.Machine.execAtrTd y t s
  | .atrTck tck => Sys2Proof.Machine.execAtrTck tck s
  | .txChar b => Sys2Proof.Machine.execTxChar b s
  | .rxChar wait dl => Sys2Proof.Machine.execRxChar wait dl s
  | .statusOk => Sys2Proof.Machine.execStatusOk s
  | .statusConfigError => Sys2Proof.Machine.execStatusConfigError s
  | .statusNoCardResponse => Sys2Proof.Machine.execStatusNoCardResponse s
  | .statusMalformedAtr detail => Sys2Proof.Machine.execStatusMalformedAtr detail s
  | .statusChecksumError => Sys2Proof.Machine.execStatusChecksumError s
  | .statusParityExhausted => Sys2Proof.Machine.execStatusParityExhausted s
  | .statusCardTimeout => Sys2Proof.Machine.execStatusCardTimeout s
  | .statusProtocolViolation => Sys2Proof.Machine.execStatusProtocolViolation s

end Sys2Proof.Machine
end

