-- ==== Sys2Proof/Machine/Fetch.lean ====
section
/-! DEFINITION. What a step runs: a host move that is due, or the next line of the command in flight (00_scope.md
R13, 30_encoding.md R101, 60_exceptions.md R296, 70_reset_and_hazards.md R320). -/

namespace Sys2Proof.Machine

/-- What the next step runs. -/
inductive Fetched where
  | hardwareReset
  | command (bytes : List Byte)
  | flight (t : Todo)
deriving DecidableEq, Repr

/-- The host's next move, when it is due. A command is presented only between two steps of R13, that is when
no register updates of a step have begun; the hardware reset strikes at any time (R320). -/
def dueMove (s : State) : Option HostMove :=
  match s.port with
  | [] => none
  | p :: _ =>
    if p.notBefore ≤ s.tick then
      match p.move with
      | .hardwareReset => some .hardwareReset
      | .command bytes => if s.midStep then none else some (.command bytes)
    else none

/-- The state with the host's first move taken. -/
def takeMove (s : State) : State := { s with port := s.port.tail }

/-- The fetch: the host's due move comes first. -/
def fetch (s : State) : Fetched :=
  match dueMove s with
  | some .hardwareReset => .hardwareReset
  | some (.command bytes) => .command bytes
  | none => .flight s.todo

/-- A command as presented runs if its bytes are one well-formed command and nothing more; if they are not, it
is refused, so nothing changes but that the host's move is over (30_encoding.md R105, R106). -/
def runCommand (bytes : List Byte) (s : State) : Result :=
  match decodeCommand bytes with
  | .ok (i, []) => exec i s
  | .ok (_, _ :: _) => .next s
  | .error _ => .next s

/-- The next line of the command in flight; without one, time passes. -/
def runFlight (t : Todo) (s : State) : Result :=
  match t with
  | .idle => .next (idleTick s)
  | .contact c => .next (runContact c s)
  | .flush => .next (runFlush s)
  | .capture b => captureAtr b s
  | .micro i => exec i s

/-- The outcome of a line of the command in flight, with what the status view shows meanwhile (R62). -/
def holdShownResult (s : State) : Result → Result
  | .next t => .next (holdShown s t)
  | .fault r => .fault r
  | .refused r => .refused r

/-- What the fetch found is run. -/
def runFetched (f : Fetched) (s : State) : Result :=
  match f with
  | .hardwareReset => .next (hardwareReset (takeMove s))
  | .command bytes => runCommand bytes (takeMove s)
  | .flight t => holdShownResult s (runFlight t s)

/-- A host command placed at the command port, presented at once. -/
def placeCommand (bytes : List Byte) (s : State) : State :=
  { s with port := [{ notBefore := 0, move := .command bytes }], midStep := false }

/-- A line of the command in flight placed where the next step runs it, no host move before it. -/
def placeMicro (i : Instr) (s : State) : State :=
  { s with port := [], todo := .micro i }

/-- A table word placed where the next step fetches it (log entry 6): a host command at the command port, any
other row as the line of the command in flight; bytes that are no instruction are presented as they are. -/
def placeWord (nbits w : Nat) (s : State) : State :=
  match decodeTableWord nbits w with
  | some i =>
    if i.isCommand then
      match tableCommand nbits w with
      | some (_, bytes) => placeCommand bytes s
      | none => placeMicro i s
    else placeMicro i s
  | none => placeCommand (wordBytes ((nbits + 7) / 8) w) s

end Sys2Proof.Machine
end

