-- ==== Sys2Proof/Machine/Step.lean ====
section
/-! DEFINITION. The step function, and the placing of an instruction where it is fetched. -/

namespace Sys2Proof.Machine

/-- One step of the machine: what is fetched is run. -/
def step (s : State) : Host.Outcome State Fault Refusal := runFetched (fetch s) s

/-- The state whose next step runs the table word. -/
def State.withFetchWord (s : State) (nbits w : Nat) : State := placeWord nbits w s

end Sys2Proof.Machine
end

