-- ==== Sys2Proof/Machine/StatusView.lean ====
section
/-! DEFINITION. What the host can read, without side effect: the status view with its register numbers
(10_state.md R62, R63), the codes of the enumerated registers, and the payload of a response (20_memory.md
R76, 30_encoding.md R123, R124). -/

namespace Sys2Proof.Machine

/-- The 2 bits of `sess_state` (R21). -/
def sessStateCode : SessState → BitVec 2
  | .none => 0
  | .ready => 1
  | .active => 2
  | .failed => 3

/-- The 2 bits of `owner` (R23). -/
def ownerCode : Owner → BitVec 2
  | .none => 0
  | .rs => 1
  | .xfer => 2

/-- The 3 bits of `cur_op` (R24, 30_encoding.md R102). -/
def opCode : Op → BitVec 3
  | .none => 0
  | .init => 1
  | .deriveTiming => 2
  | .coldReset => 3
  | .warmReset => 4
  | .transfer => 5
  | .decodeAtr => 6

/-- The 3 bits of `rs_state` (R26). -/
def rsStateCode : RsState → BitVec 3
  | .idle => 0
  | .vccStable => 1
  | .clockStarted => 2
  | .rstAsserted => 3
  | .rstReleased => 4
  | .atrWindowOpen => 5
  | .atrCaptured => 6
  | .atrTimeout => 7

/-- The bit of `rs_kind` (R27). -/
def rsKindCode : ResetKind → BitVec 1
  | .cold => 0
  | .warm => 1

/-- The 3 bits of `xfer_state` (R34). -/
def xferStateCode : XferState → BitVec 3
  | .idle => 0
  | .sendHeader => 1
  | .awaitProcedureByte => 2
  | .dataOut => 3
  | .dataIn => 4
  | .complete => 5

/-- The 2 bits of `xcase` (R36). -/
def xcaseCode : XCase → BitVec 2
  | .case1 => 1
  | .case2 => 2
  | .case3 => 3

/-- The 4 bits of a status code (30_encoding.md R125). -/
def statusCode : Status → BitVec 4
  | .ok => 0
  | .configError => 1
  | .noCardResponse => 2
  | .malformedAtr => 3
  | .checksumError => 4
  | .parityExhausted => 5
  | .cardTimeout => 6
  | .protocolViolation => 7

/-- A register of the view as a word. -/
def viewBits {w : Nat} (v : BitVec w) : Option (BitVec 96) := some (v.setWidth 96)

/-- A one-bit register of the view. -/
def viewBool (b : Bool) : Option (BitVec 96) := some ((BitVec.ofBool b).setWidth 96)

/-- The configuration packed as the `CFG` word (R63, 30_encoding.md R108). -/
def packedCfg (c : SessionConfig) (maxIter : BitVec 8) : BitVec 96 :=
  cfgToWord
    { protocol := c.protocol, clkSel := c.clkSel, charLen := c.charLen, parity := c.parity,
      stopBits := c.stopBits, bitOrder := c.bitOrder, nackInhibit := c.nackInhibit, reserved := 0,
      maxIterations := maxIter, targetClockHz := c.targetClockHz, fi := c.fi, di := c.di,
      timeGuardEtu := c.timeGuardEtu }

/-- The registers the view shows: as of the last completed step (R62, 70_reset_and_hazards.md R338). -/
def shownRegs (s : State) : StatusRegs := if s.midStep then s.shown else statusRegs s

/-- A register that the view shows only in a session (R62). -/
def inSession (r : StatusRegs) (v : Option (BitVec 96)) : Option (BitVec 96) :=
  if r.sessState = .none then none else v

/-- The registers of the view by number (R62, R63); `none` is no value, reserved numbers read as 0. -/
def readView (no : BitVec 5) (r : StatusRegs) : Option (BitVec 96) :=
  match no.toNat with
  | 0 => viewBits (sessStateCode r.sessState)
  | 1 => viewBool r.busy
  | 2 => viewBits (ownerCode r.owner)
  | 3 => viewBits (opCode r.curOp)
  | 4 => viewBits (rsStateCode r.rsState)
  | 5 => viewBits (rsKindCode r.rsKind)
  | 6 => viewBits (xferStateCode r.xferState)
  | 7 => r.xcase.bind fun c => viewBits (xcaseCode c)
  | 8 => viewBool r.pinVcc
  | 9 => viewBool r.pinClk
  | 10 => viewBool r.pinRst
  | 11 => viewBits r.atrLen
  | 12 => viewBool r.atrValid
  | 13 => viewBits (statusCode r.rspStatus)
  | 14 => viewBits r.rspDetail.code
  | 15 => viewBits r.rspLen
  | 16 => viewBits r.idx
  | 17 => viewBits r.retry
  | 18 => inSession r (r.baudDiv.bind viewBits)
  | 19 => inSession r (r.guardTicks.bind viewBits)
  | 20 => inSession r (r.cfg.map fun c => packedCfg c r.cfgMaxIterations)
  | 21 => viewBits r.doutLen
  | 22 => viewBits r.rawLen
  | _ => some 0

/-- A read of the status view by register number (R62, R63). -/
def statusView (no : BitVec 5) (s : State) : Option (BitVec 96) := readView no (shownRegs s)

/-! ## The payload of a response (20_memory.md R76, 70_reset_and_hazards.md R331) -/

/-- `RSP[0 .. rsp_len-1]`, as the host reads it (30_encoding.md R123). -/
def responseData (s : State) : List (Option Byte) :=
  (List.range s.rspLen.toNat).map (memRead s.rsp)

/-- The bytes captured in `ATR`, as the host reads them. -/
def capturedAtr (s : State) : List (Option Byte) :=
  (List.range s.atrLen.toNat).map (memRead s.atr)

/-- What a response carries besides its status and detail (R76, R124). -/
inductive Payload where
  | none
  | session (handle : Nat) (baudDiv : BitVec 16) (guardTicks : BitVec 9)   -- `INIT` (40_timing_and_init.md R150)
  | timing (baudDiv : BitVec 16) (guardTicks : BitVec 9)                   -- `DERIVE_TIMING`
  | atr (bytes : List (Option Byte)) (view : AtrView)
  | partialAtr (bytes : List (Option Byte))
  | view (v : AtrView)
  | response (data : List (Option Byte)) (sw1 sw2 : Byte)
deriving DecidableEq, Repr

/-- The places of a `DERIVE_TIMING` response: the result pair, of the last successful `DERIVE_TIMING` or `INIT`
(10_state.md R44). -/
def timingPayload (s : State) : Payload :=
  match s.resBaudDiv, s.resGuardTicks with
  | some b, some g => .timing b g
  | some _, none => .none
  | none, some _ => .none
  | none, none => .none

/-- The places of an `INIT` response: the handle, which is constant (00_scope.md R7), and the result pair while it
is the session's, that is until a `DERIVE_TIMING` or an `INIT` has written another (R331; DESIGN CHOICE, log entry 20). -/
def sessionPayload (s : State) : Payload :=
  match s.resBaudDiv, s.resGuardTicks with
  | some b, some g =>
    if s.baudDiv = some b ∧ s.guardTicks = some g then .session Config.sessionHandle b g else .none
  | some _, none => .none
  | none, some _ => .none
  | none, none => .none

/-- The places of a reset's response, for the last reset: the ATR with its view, or after a failure the bytes
captured before it; none of it while a reset is in flight, and after an `INIT` (R331). -/
def resetPayload (s : State) : Payload :=
  match s.atrd with
  | some v => .atr (capturedAtr s) v
  | none => if s.rsState = .atrCaptured ∨ s.rsState = .atrTimeout then .partialAtr (capturedAtr s) else .none

/-- The places of a `TRANSFER` response: the data and the two status bytes (R123); none of it after a failure. -/
def transferPayload (s : State) : Payload :=
  match s.sw1, s.sw2 with
  | some a, some b => .response (responseData s) a b
  | some _, none => .none
  | none, some _ => .none
  | none, none => .none

/-- A reset command is in flight. -/
def resetInFlight (s : State) : Bool := s.curOp == .coldReset || s.curOp == .warmReset

/-- What the host can read of the last response to a command `op` (R76): it stays until the acceptance of the next
command that writes the same places (R331), whatever other commands end meanwhile. -/
def payload (op : Op) (s : State) : Payload :=
  match op with
  | .none => .none
  | .init => sessionPayload s
  | .deriveTiming => timingPayload s
  | .coldReset => if resetInFlight s ∨ s.rsKind ≠ .cold then .none else resetPayload s
  | .warmReset => if resetInFlight s ∨ s.rsKind ≠ .warm then .none else resetPayload s
  | .transfer => if s.curOp = .transfer then .none else transferPayload s
  | .decodeAtr =>
    match s.decd with
    | some v => .view v
    | none => .none

end Sys2Proof.Machine
end

