-- ==== Sys2Proof/Safety.lean ====
section
/-! DEFINITION. What a safe state is: the invariants the spec gives the registers and buffers (10_state.md,
20_memory.md R70 to R75), and how the model's own fields follow the rules' pseudocode. Every test is a `Bool`, so
that a concrete state can be decided. -/

namespace Sys2Proof.Machine

/-! ## The session (R21, R25, R30, R32, R33) -/

/-- `atr_valid = 1` exactly in `S_ACTIVE` (R32), `ATRD` holds a value exactly then (R33), the configuration and
the timing hold values exactly in a session (R25, R30), and an etu is at least one cycle (R144). -/
def sessionOk (s : State) : Bool :=
  s.atrValid == (s.sessState == .active) && s.atrd.isSome == s.atrValid &&
  s.cfg.isSome == (s.sessState != .none) && s.baudDiv.isSome == s.cfg.isSome &&
  s.guardTicks.isSome == s.cfg.isSome && s.baudDiv != some 0

/-! ## The command in flight (R22 to R24, R34 to R36, R41) -/

/-- The owner of the channel while a command is in flight (R23). -/
def ownerOf : Op → Owner
  | .none => .none
  | .init => .none
  | .deriveTiming => .none
  | .coldReset => .rs
  | .warmReset => .rs
  | .transfer => .xfer
  | .decodeAtr => .none

/-- The commands that last longer than their step of acceptance (R49), and no command. -/
def lastsOn : Op → Bool
  | .none => true
  | .init => false
  | .deriveTiming => false
  | .coldReset => true
  | .warmReset => true
  | .transfer => true
  | .decodeAtr => false

/-- `busy`, `cur_op` and `owner` agree (R22 to R24); the Transfer Engine is at rest but in a transfer (R34), and
only then do HDR and `xcase` hold values (R35, R36); a transfer has a deadline (R41). -/
def commandOk (s : State) : Bool :=
  s.busy == (s.curOp != .none) && s.owner == ownerOf s.curOp && lastsOn s.curOp &&
  (s.xferState != .idle) == (s.curOp == .transfer) && s.hdr.isSome == (s.curOp == .transfer) &&
  s.xcase.isSome == (s.curOp == .transfer) &&
  (s.curOp != .transfer || s.xferDeadline.isSome && s.sessState == .active) &&
  (s.owner != .rs || (s.sessState == .ready || s.sessState == .active) && resetOp s.rsKind == s.curOp)

/-! ## The contacts (R29, R107) -/

/-- The three contacts at these levels. -/
def pinsAre (vcc clk rst : Bool) (s : State) : Bool :=
  s.pinVcc == vcc && s.pinClk == clk && s.pinRst == rst

/-- A valid ATR means a card powered, clocked and released (R107, 41_reset_sequencer.md R181), and so does a failed
one (R183, R185). -/
def contactsOk (s : State) : Bool :=
  (s.sessState != .active && s.sessState != .failed) || pinsAre true true true s

/-! ## The place in the pseudocode (R26, R49, 41_reset_sequencer.md) -/

/-- What holds when a line of the sequencer is next (R164 to R171). -/
def contactFits (c : Contact) (s : State) : Bool :=
  match c with
  | .coldRstLow => s.rsKind == .cold && s.rsState == .idle
  | .coldClkOff => s.rsKind == .cold && s.rsState == .idle && !s.pinRst
  | .coldVccOff => s.rsKind == .cold && s.rsState == .idle && !s.pinRst && !s.pinClk
  | .coldVccOn => s.rsKind == .cold && s.rsState == .idle && pinsAre false false false s
  | .vccWait => s.rsKind == .cold && s.rsState == .idle && pinsAre true false false s
  | .clkOn => s.rsKind == .cold && s.rsState == .vccStable && pinsAre true false false s
  | .clkRstLow => s.rsKind == .cold && s.rsState == .vccStable && pinsAre true true false s
  | .warmRstLow => s.rsKind == .warm && s.rsState == .idle && s.pinVcc && s.pinClk
  | .holdWait =>
    s.rsState == (if s.rsKind = .cold then .clockStarted else .idle) && pinsAre true true false s
  | .resetFlush => s.rsState == .rstAsserted && pinsAre true true false s
  | .rstHigh => s.rsState == .rstAsserted && pinsAre true true false s
  | .released => s.rsState == .rstAsserted && pinsAre true true true s
  | .openWindow => s.rsState == .rstReleased && pinsAre true true true s && s.tMark.isSome

/-- The sequencer waits for an ATR character, or has one in hand: there is room for it (R176), and the first one
is awaited in `AtrWindowOpen`, with its deadline, the others in `AtrCaptured` (R171, R172, R175). -/
def receiving (s : State) : Bool :=
  s.owner == .rs && s.sessState == .ready && decide (s.atrLen.toNat < Config.atrMax) &&
  pinsAre true true true s && s.rsState == (if s.atrLen = 0 then .atrWindowOpen else .atrCaptured) &&
  (s.rsState != .atrWindowOpen || s.atrDeadline.isSome)

/-- P3 of the transfer in flight; 0 without one. -/
def dataCount (s : State) : Nat :=
  match s.hdr with
  | some h => h.p3.toNat
  | none => 0

/-- The transfer waits for a character (44_tpdu_transfer.md R244, R247, R249, R250); after its data phase it
reads the status. -/
def listening (s : State) : Bool :=
  match s.xferState with
  | .awaitProcedureByte => true
  | .dataOut => s.idx.toNat == dataCount s
  | .dataIn => true
  | .idle => false
  | .sendHeader => false
  | .complete => false

/-- What holds when a row of the opcode table is the next line of the command in flight. -/
def microFits (i : Instr) (s : State) : Bool :=
  match i with
  | .tpduHdr cla ins p1 p2 p3 =>
    s.xferState == .sendHeader && s.hdr == some { cla := cla, ins := ins, p1 := p1, p2 := p2, p3 := p3 }
  | .procNull => s.xferState == .awaitProcedureByte && s.sw1 == none
  | .procAck _ => s.xferState == .awaitProcedureByte && s.sw1 == none
  | .procAckInv _ => s.xferState == .awaitProcedureByte && s.sw1 == none
  | .procSw1 _ => s.xferState == .awaitProcedureByte && s.sw1 == none
  | .atrTsDirect => receiving s
  | .atrTsInverse => receiving s
  | .atrT0 _ _ => receiving s
  | .atrTd _ _ => receiving s
  | .atrTck _ => receiving s
  | .txChar _ =>
    (s.xferState == .sendHeader && decide (s.idx.toNat < Config.hdrLen)) ||
    (s.xferState == .dataOut && decide (s.idx.toNat < dataCount s))
  | .rxChar wait _ => decide (1 ≤ wait) && (receiving s || listening s)
  | .statusOk => (s.owner == .rs && s.sessState == .active && s.rsState == .atrCaptured) || s.xferState == .complete
  | .statusNoCardResponse =>
    s.owner == .rs && s.sessState == .ready && s.rsState == .atrTimeout && s.atrLen == 0 && pinsAre true true true s
  | .statusMalformedAtr _ =>
    s.owner == .rs && s.sessState == .ready && s.rsState == .atrCaptured && pinsAre true true true s
  | .statusChecksumError =>
    s.owner == .rs && s.sessState == .ready && s.rsState == .atrCaptured && pinsAre true true true s
  | .statusParityExhausted => s.owner == .xfer
  | .statusCardTimeout => s.owner == .xfer
  | .statusProtocolViolation => s.owner == .xfer
  | .statusConfigError => false
  | .init _ => false
  | .deriveTiming _ => false
  | .coldReset => false
  | .warmReset => false
  | .transfer _ _ _ _ _ => false
  | .transferD _ _ _ _ _ _ => false
  | .decodeAtr _ => false
  | .reservedOp0 _ => false
  | .reservedOp7 _ => false

/-- The model's own `todo` is a line of the pseudocode of the command in flight. -/
def todoFits (s : State) : Bool :=
  match s.todo with
  | .idle => !s.busy
  | .contact c => s.owner == .rs && s.sessState == .ready && s.atrLen == 0 && contactFits c s
  | .flush => s.xferState == .sendHeader
  | .capture _ => receiving s
  | .micro i => microFits i s

/-! ## The transfer's registers (R36 to R40) -/

/-- The registers of a transfer in flight: DOUT holds P3 bytes in Case 2 and none otherwise (R37), `idx` stays in
the range of its phase (R38), `rsp_len` is P3 once a Case 3 data phase has run and 0 before (R39), SW1 comes
before SW2 (R40). -/
def transferFits (h : Header) (c : XCase) (s : State) : Bool :=
  (c == .case1) == (h.p3 == 0) && s.doutLen == (if c = .case2 then h.p3 else 0) &&
  match s.xferState with
  | .idle => false
  | .sendHeader => decide (s.idx.toNat ≤ Config.hdrLen) && s.rspLen == 0 && s.sw1 == none && s.sw2 == none
  | .awaitProcedureByte => s.rspLen == 0 && s.sw2 == none
  | .dataOut =>
    c == .case2 && s.rspLen == 0 && s.sw2 == none &&
    (s.idx.toNat == h.p3.toNat || decide (s.idx.toNat < h.p3.toNat) && s.sw1 == none)
  | .dataIn =>
    c == .case3 && s.sw2 == none &&
    (s.idx.toNat == h.p3.toNat && s.rspLen == h.p3 ||
     decide (s.idx.toNat < h.p3.toNat) && s.rspLen == 0 && s.sw1 == none)
  | .complete => s.sw1.isSome && s.sw2.isSome

/-- The transfer's registers, in a transfer or at rest. -/
def transferOk (s : State) : Bool :=
  match s.hdr, s.xcase with
  | some h, some c => transferFits h c s
  | some _, none => false
  | none, some _ => false
  | none, none => s.doutLen == 0

/-! ## The buffers (20_memory.md R70 to R75) -/

/-- A buffer holds values at the indices below `n` and nowhere else. -/
def filledBelow (m : Memory) (n : Nat) : Bool := m.map Prod.fst == List.range n

/-- How far RSP is filled: to `idx` while the data come in (R249), to `rsp_len` otherwise (R39). -/
def rspFill (s : State) : Nat := if s.xferState = .dataIn then s.idx.toNat else s.rspLen.toNat

/-- Each buffer holds exactly the bytes its length register counts (R71 to R74), and no more than it has room
for. -/
def buffersOk (s : State) : Bool :=
  filledBelow s.atr s.atrLen.toNat && filledBelow s.dout s.doutLen.toNat &&
  filledBelow s.rsp (rspFill s) && filledBelow s.raw s.rawLen.toNat &&
  decide (s.atrLen.toNat ≤ Config.atrMax) && decide (s.rawLen.toNat ≤ Config.atrMax)

/-- All four buffers are in the canonical form. -/
def buffersCanonical (s : State) : Bool := s.atr.wf && s.dout.wf && s.rsp.wf && s.raw.wf

/-! ## The retry budget (R42) -/

/-- Inside `TX_CHAR` or `RX_CHAR`, `retry` is within the budget (R42; log entry 16). -/
def retryOk (s : State) : Bool := s.char == .fresh || decide (s.retry ≤ s.cfgMaxIterations)

/-! ## The safe states -/

/-- A safe state. The block is in one right after hardware reset, and stays in one. -/
def State.safe (s : State) : Bool :=
  sessionOk s && commandOk s && contactsOk s && todoFits s && transferOk s && buffersOk s

/-! ## The moves of the two state registers -/

/-- The moves of `rs_state` in the table of 41_reset_sequencer.md R186; a step may also leave it. -/
def rsMoves (a b : RsState) : Bool :=
  a == b ||
  match a, b with
  | _, .idle => true
  | .idle, .vccStable => true
  | .idle, .rstAsserted => true
  | .vccStable, .clockStarted => true
  | .clockStarted, .rstAsserted => true
  | .rstAsserted, .rstReleased => true
  | .rstReleased, .atrWindowOpen => true
  | .atrWindowOpen, .atrCaptured => true
  | .atrWindowOpen, .atrTimeout => true
  | _, _ => false

/-- The moves of `xfer_state` in the table of 44_tpdu_transfer.md R255; a step may also leave it. -/
def xferMoves (a b : XferState) : Bool :=
  a == b ||
  match a, b with
  | _, .idle => true
  | .idle, .sendHeader => true
  | .sendHeader, .awaitProcedureByte => true
  | .awaitProcedureByte, .dataOut => true
  | .awaitProcedureByte, .dataIn => true
  | .awaitProcedureByte, .complete => true
  | .dataOut, .complete => true
  | .dataIn, .complete => true
  | _, _ => false

/-! ## What an ATR's view says of its bytes -/

/-- The bytes of an optional character. -/
def optByte : Option Byte → List Byte
  | none => []
  | some b => [b]

/-- The interface bytes of a group, in the order on the line (30_encoding.md R118). -/
def AtrGroup.bytes (g : AtrGroup) : List Byte := optByte g.ta ++ optByte g.tb ++ optByte g.tc ++ optByte g.td

/-- The bytes of an ATR as its view has them, in the order on the line (30_encoding.md R115). -/
def AtrView.bytes (v : AtrView) : List Byte :=
  v.ts :: v.t0 :: ((v.groups.map AtrGroup.bytes).flatten ++ v.hist ++ optByte v.tck)

/-- The places of a group's interface bytes, in the order on the line (30_encoding.md R118). -/
def AtrGroup.roles (g : AtrGroup) : List AtrRole :=
  (if g.ta.isSome then [.ta] else []) ++ (if g.tb.isSome then [.tb] else []) ++
  (if g.tc.isSome then [.tc] else []) ++ (if g.td.isSome then [.td] else [])

/-- The places of an ATR's bytes, in the order on the line (30_encoding.md R115). -/
def AtrView.roles (v : AtrView) : List AtrRole :=
  .ts :: .t0 :: ((v.groups.map AtrGroup.roles).flatten ++ List.replicate v.hist.length .hist ++
    (if v.tckPresent then [.tck] else []))

/-- The XOR of bytes. -/
def xorAll : List Byte → Byte
  | [] => 0
  | b :: rest => b ^^^ xorAll rest

/-- Some TD of the groups declares a protocol other than 0 (30_encoding.md R121). -/
def declaresOther (gs : List AtrGroup) : Bool :=
  gs.any fun g => match g.td with
    | some td => loNibble td != 0
    | none => false

/-- Groups of interface bytes that follow a bitmap `y`, the first with index `gi` and the protocol `proto`: a group
for every bitmap that is not 0, its bytes present as the bits say, its TD giving the next bitmap and protocol
(30_encoding.md R118, R119, 42_atr_decoder.md R195 to R197). -/
def chained (proto : Option (BitVec 4)) (y : BitVec 4) (gi : Nat) : List AtrGroup → Bool
  | [] => y == 0
  | g :: rest =>
    y != 0 && g.index == gi && g.proto == proto && g.ta.isSome == y.getLsbD 0 && g.tb.isSome == y.getLsbD 1 &&
    g.tc.isSome == y.getLsbD 2 && g.td.isSome == y.getLsbD 3 &&
    match g.td with
    | none => rest.isEmpty
    | some td => chained (some (loNibble td)) (hiNibble td) (gi + 1) rest

/-- A view with the structure of an ATR (30_encoding.md R115 to R121), whatever the value of its TCK. -/
def AtrView.structured (v : AtrView) : Bool :=
  (v.ts == 0x3B && v.convention == 0 || v.ts == 0x3F && v.convention == 1) &&
  v.k == loNibble v.t0 && v.y1 == hiNibble v.t0 && chained none v.y1 1 v.groups &&
  v.hist.length == v.k.toNat && v.tckPresent == declaresOther v.groups && v.tck.isSome == v.tckPresent &&
  v.len == BitVec.ofNat 8 v.bytes.length

/-- The XOR of the characters after TS is 0 wherever there is a TCK (30_encoding.md R121). -/
def AtrView.checked (v : AtrView) : Bool := !v.tckPresent || xorAll (v.bytes.drop 1) == 0

end Sys2Proof.Machine
end

