-- ==== Sys2Proof/Certificates/Slice0/Obligations.lean ====
section
/-! DEFINITION. The statements for the provers. Rules are those of spec/; "log entry n" is notes/assumptions/n.md. -/

open Sys2Proof Sys2Proof.Machine

/-! ## Encodings (30_encoding.md) -/

/-- The decoder reads every well-formed instruction that has bytes back from its encoding, whatever follows
(R100 to R121, R125, R126, R128). The byte order of CFG and DT is log entry 7, the status byte log entry 8. -/
def Obligations.DecodeOfEncode : Prop :=
  ∀ (i : Instr) (rest : List Byte), i.wf = true → i.space ≠ .micro →
    decode i.space (encode i ++ rest) = .ok (i, rest)

/-- A command that decodes has the well-formedness `wf` of the model, and its bytes are its encoding: no two byte
sequences are the same command (R101 to R105). `wf` counts the two reserved op codes among the commands, because they are
rows of the opcode table (R127); by R105 (a) they are not well formed, and are refused. -/
def Obligations.EncodeOfDecode : Prop :=
  ∀ (bs rest : List Byte) (i : Instr), decodeCommand bs = .ok (i, rest) →
    i.wf = true ∧ i.isCommand = true ∧ bs = encode i ++ rest

/-- Words written out: the fields of CFG0 in the bits of R108 and of a DT word in those of R109, a header with data, a
header on the line, a procedure byte, a T0, a status. That the bytes of CFG and DT come least significant first is the
model's choice (log entry 7), and so is the byte a status has (log entry 8). -/
def Obligations.WordsDecode : Prop :=
  decode .command [0x01, 0x00, 0x22, 0x00, 0x03, 0x00, 0x7E, 0x36, 0x00, 0x74, 0x01, 0x01, 0x00] =
    .ok (.init { protocol := 0, clkSel := 0, charLen := 8, parity := 0, stopBits := 2, bitOrder := 0,
                 nackInhibit := 0, reserved := 0, maxIterations := 3, targetClockHz := 3571200, fi := 372,
                 di := 1, timeGuardEtu := 0 }, []) ∧
  decode .command [0x02, 0x74, 0x01, 0x01, 0x00, 0x00, 0x7E, 0x36, 0x00] =
    .ok (.deriveTiming { fi := 372, di := 1, timeGuardEtu := 0, targetClockHz := 3571200 }, []) ∧
  decode .command [0x0D, 0x00, 0x20, 0x00, 0x00, 0x02, 0x02, 0x0A, 0x0B] =
    .ok (.transferD 0x00 0x20 0x00 0x00 0x02 [0x0A, 0x0B], []) ∧
  decode .header [0x00, 0xB0, 0x00, 0x00, 0x03] = .ok (.tpduHdr 0x00 0xB0 0x00 0x00 0x03, []) ∧
  decode (.proc 0xB0) [0x4F] = .ok (.procAckInv 0x4F, []) ∧
  decode (.atr .t0) [0x96] = .ok (.atrT0 9 6, []) ∧
  decode .status [0x06] = .ok (.statusCardTimeout, [])

/-- The class of a procedure byte, by the tests in their order (R110 to R113); the exclusive-or form of R112. -/
def Obligations.ProcedureByteClasses : Prop :=
  ∀ ins pb : Byte,
    (classifyProc ins pb = .procNull ↔ pb = 0x60) ∧
    ((classifyProc ins pb = .procAck pb ∨ classifyProc ins pb = .procAckInv pb) ↔
      pb ≠ 0x60 ∧ (pb ^^^ ins = 0x00 ∨ pb ^^^ ins = 0xFF)) ∧
    (classifyProc ins pb = .procSw1 pb ↔ pb ≠ 0x60 ∧ pb ≠ ins ∧ pb ≠ ~~~ins)

/-! ## Acceptance and refusal (30_encoding.md) -/

/-- The acceptance table (R107), by command, with what the columns say of the session and of the clocked card. -/
def Obligations.AcceptanceTable : Prop :=
  ∀ s : State,
    (accepts .init s = true ↔ s.busy = false) ∧
    (accepts .deriveTiming s = true ↔ s.busy = false) ∧
    (accepts .decodeAtr s = true ↔ s.busy = false) ∧
    (accepts .coldReset s = true ↔
      (s.busy = false ∧ (s.sessState = .ready ∨ s.sessState = .active)) ∨
      (s.busy = true ∧ s.curOp = .transfer)) ∧
    (accepts .warmReset s = true ↔
      (s.busy = false ∧ (s.sessState = .ready ∨ s.sessState = .active) ∧ s.pinVcc = true ∧ s.pinClk = true) ∨
      (s.busy = true ∧ s.curOp = .transfer)) ∧
    (accepts .transfer s = true ↔ s.busy = false ∧ s.sessState = .active)

/-- A command the table forbids changes nothing (R106, R107); nor does a reserved op code (R127), or data that
are not P3 bytes, or more than `ATR_MAX` raw bytes (R105). -/
def Obligations.RefusedCommandsChangeNothing : Prop :=
  ∀ s : State,
    (∀ c, s.busy = true → exec (.init c) s = .next s) ∧
    (∀ d, s.busy = true → exec (.deriveTiming d) s = .next s) ∧
    (∀ bs, s.busy = true ∨ 55 < bs.length → exec (.decodeAtr bs) s = .next s) ∧
    (∀ cla ins p1 p2 p3, s.busy = true ∨ s.sessState ≠ .active →
      exec (.transfer cla ins p1 p2 p3) s = .next s) ∧
    (∀ cla ins p1 p2 p3 data, s.busy = true ∨ s.sessState ≠ .active ∨ data.length ≠ p3.toNat →
      exec (.transferD cla ins p1 p2 p3 data) s = .next s) ∧
    ((s.busy = false ∧ s.sessState ≠ .ready ∧ s.sessState ≠ .active) ∨ (s.busy = true ∧ s.curOp ≠ .transfer) →
      exec .coldReset s = .next s) ∧
    ((s.busy = false ∧ ((s.sessState ≠ .ready ∧ s.sessState ≠ .active) ∨ s.pinVcc = false ∨ s.pinClk = false)) ∨
        (s.busy = true ∧ s.curOp ≠ .transfer) →
      exec .warmReset s = .next s) ∧
    (∀ rest, exec (.reservedOp0 rest) s = .next s ∧ exec (.reservedOp7 rest) s = .next s)

/-- The two reserved op codes complete as refused commands: nothing changes (R127, R106). -/
def Obligations.ReservedOpsComplete : Prop :=
  ∀ (rest : BitVec 5) (s : State), exec (.reservedOp0 rest) s = .next s ∧ exec (.reservedOp7 rest) s = .next s

/-- A command that is not well formed is refused as a whole: a reserved op code, a reserved bit, `dp` with an op
other than `TRANSFER`, `dlen` other than P3, `n` above `ATR_MAX` (R105, R127), a `TRANSFER` with `dp = 0` that carries
data (R105 d). That every other argument block not as long as its op code calls for (R102, R103, R128) refuses the whole
presentation is the model's choice (log entry 5). -/
def Obligations.MalformedCommandsRefused : Prop :=
  ∀ (cmd : Byte) (rest : List Byte) (s : State),
    (cmd.extractLsb' 0 3 = (0 : BitVec 3) ∨ cmd.extractLsb' 0 3 = (7 : BitVec 3) ∨ hiNibble cmd ≠ 0 ∨
      (cmd.getLsbD 3 = true ∧ cmd.extractLsb' 0 3 ≠ (5 : BitVec 3)) ∨
      (cmd = 0x0D ∧ rest[5]? ≠ rest[4]?) ∨ (cmd = 0x06 ∧ ∃ n, rest.head? = some n ∧ 55 < n.toNat) ∨
      (cmd = 0x01 ∧ rest.length ≠ 12) ∨ (cmd = 0x02 ∧ rest.length ≠ 8) ∨ (cmd = 0x03 ∧ rest ≠ []) ∨
      (cmd = 0x04 ∧ rest ≠ []) ∨ (cmd = 0x05 ∧ rest.length ≠ 5) ∨
      (cmd = 0x0D ∧ ∀ p3, rest[4]? = some p3 → rest.length ≠ 6 + p3.toNat) ∨
      (cmd = 0x06 ∧ ∀ n, rest.head? = some n → rest.length ≠ 1 + n.toNat)) →
    runCommand (cmd :: rest) s = .next s

/-- While a card reset runs no command is accepted: whatever the host presents, nothing changes (R297, R330). -/
def Obligations.ResetInFlightRefusesAll : Prop :=
  ∀ (bs : List Byte) (s : State), s.busy = true → s.curOp ≠ .transfer → runCommand bs s = .next s

/-! ## The Timing Engine and `INIT` (40_timing_and_init.md) -/

/-- The divisor is the whole number nearest to Fi/Di, the larger of two equally near (R142). That an etu lasts
Fi/Di cycles is the spec's general knowledge, not the source's. -/
def Obligations.DivisorIsNearest : Prop :=
  ∀ (fi : BitVec 16) (di : BitVec 8), di ≠ 0 →
    2 * di.toNat * divisor fi di ≤ 2 * fi.toNat + di.toNat ∧
    2 * fi.toNat + di.toNat < 2 * di.toNat * (divisor fi di + 1)

/-- When `derive` is `Invalid`, and what it gives otherwise, no bit lost (R143, R144). -/
def Obligations.DeriveValidity : Prop :=
  ∀ (fi : BitVec 16) (di : BitVec 8) (hz : BitVec 32) (tg : BitVec 8),
    (derive fi di hz tg = none ↔
      di = 0 ∨ fi = 0 ∨ (2 * fi.toNat + di.toNat) / (2 * di.toNat) < 1 ∨
      (2 * fi.toNat + di.toNat) / (2 * di.toNat) > 65535 ∨ hz = 0) ∧
    ∀ b g, derive fi di hz tg = some (b, g) →
      b.toNat = (2 * fi.toNat + di.toNat) / (2 * di.toNat) ∧ g.toNat = tg.toNat + 12

/-- `DERIVE_TIMING`, one step: the result pair and the response, the session untouched (R141). That no time passes
(`now` is kept) is the model's choice (log entry 17); `todo`, `char`, `midStep` and `history` are its own (log entry
4). -/
def Obligations.DeriveTimingRuns : Prop :=
  ∀ (d : DtArg) (s : State), s.busy = false →
    (derive d.fi d.di d.targetClockHz d.timeGuardEtu = none →
      exec (.deriveTiming d) s = .next
        { s with resBaudDiv := none, resGuardTicks := none, rspStatus := .configError, rspDetail := .none,
                 busy := false, curOp := .none, owner := .none, todo := .idle, char := .fresh, midStep := false,
                 history := [.accept .deriveTiming, .respond .configError .none] }) ∧
    (∀ b g, derive d.fi d.di d.targetClockHz d.timeGuardEtu = some (b, g) →
      exec (.deriveTiming d) s = .next
        { s with resBaudDiv := some b, resGuardTicks := some g, rspStatus := .ok, rspDetail := .none,
                 busy := false, curOp := .none, owner := .none, todo := .idle, char := .fresh, midStep := false,
                 history := [.accept .deriveTiming, .respond .ok .none] })

/-- A successful `INIT`: the new session, its timing, one `ChApply`, no ATR, the contacts untouched (R149, R150). That
no time passes but in its `ChApply` is the model's choice (log entry 17); `todo`, `char`, `midStep`, `history` and the
oracle's fields are its own (log entries 2 and 4). -/
def Obligations.InitSucceeds : Prop :=
  ∀ (c : CfgArg) (b : BitVec 16) (g : BitVec 9) (s : State), s.busy = false →
    c.reserved = 0 → c.protocol = 0 → c.charLen = 8 → c.parity = 0 → c.stopBits = 2 →
    derive c.fi c.di c.targetClockHz c.timeGuardEtu = some (b, g) →
    exec (.init c) s = .next
      { s with
        cfg := some { protocol := c.protocol, clkSel := c.clkSel, charLen := c.charLen, parity := c.parity,
                      stopBits := c.stopBits, bitOrder := c.bitOrder, nackInhibit := c.nackInhibit,
                      targetClockHz := c.targetClockHz, fi := c.fi, di := c.di, timeGuardEtu := c.timeGuardEtu },
        cfgMaxIterations := c.maxIterations, baudDiv := some b, guardTicks := some g, resBaudDiv := some b,
        resGuardTicks := some g, atr := [], atrLen := 0, atrValid := false, atrd := none, rsState := .idle,
        sessState := .ready, rspStatus := .ok, rspDetail := .none, busy := false, curOp := .none, owner := .none,
        now := s.now + (reply s).extra, replies := s.replies.tail, tick := s.tick + 1,
        todo := .idle, char := .fresh, midStep := false,
        history := [.accept .init,
          .apply { baudDiv := b, guardTicks := g, clkSel := c.clkSel, targetClockHz := c.targetClockHz,
                   charLen := c.charLen, parity := c.parity, stopBits := c.stopBits, bitOrder := c.bitOrder,
                   nackInhibit := c.nackInhibit },
          .respond .ok .none] }

/-- A failed `INIT` changes the response registers only (R149, R152). That no time passes (`now` is kept) is the
model's choice (log entry 17); `todo`, `char`, `midStep` and `history` are its own (log entry 4). -/
def Obligations.InitFails : Prop :=
  ∀ (c : CfgArg) (s : State), s.busy = false →
    (c.reserved ≠ 0 ∨ c.protocol ≠ 0 ∨ c.charLen ≠ 8 ∨ c.parity ≠ 0 ∨ c.stopBits ≠ 2 ∨
      derive c.fi c.di c.targetClockHz c.timeGuardEtu = none) →
    exec (.init c) s = .next
      { s with rspStatus := .configError, rspDetail := .none, resBaudDiv := none, resGuardTicks := none,
               busy := false, curOp := .none, owner := .none, todo := .idle, char := .fresh, midStep := false,
               history := [.accept .init, .respond .configError .none] }

/-! ## The Reset Sequencer (41_reset_sequencer.md) -/

/-- The acceptance of a reset command with nothing in flight (R161 to R163). That no time passes (`now` is kept) is the
model's choice (log entry 17); `todo`, `char`, `midStep` and `history` are its own (log entry 4). -/
def Obligations.ResetAccepted : Prop :=
  ∀ s : State, s.busy = false → s.sessState = .ready ∨ s.sessState = .active →
    (exec .coldReset s = .next
      { s with busy := true, curOp := .coldReset, owner := .rs, rsKind := .cold, rsState := .idle, atr := [],
               atrLen := 0, atrValid := false, atrd := none, sessState := .ready,
               todo := .contact .coldRstLow, char := .fresh, midStep := false, history := [.accept .coldReset] }) ∧
    (s.pinVcc = true → s.pinClk = true → exec .warmReset s = .next
      { s with busy := true, curOp := .warmReset, owner := .rs, rsKind := .warm, rsState := .idle, atr := [],
               atrLen := 0, atrValid := false, atrd := none, sessState := .ready,
               todo := .contact .warmRstLow, char := .fresh, midStep := false, history := [.accept .warmReset] })

/-- A reset command over a transfer: the transfer is abandoned without a response and the reset accepted, in one step
(R296). That no time passes (`now` is kept) is the model's choice (log entry 17); `todo`, `char`, `midStep` and
`history` are its own (log entry 4). -/
def Obligations.ResetPreemptsTransfer : Prop :=
  ∀ (s : State), s.busy = true → s.curOp = .transfer →
    exec .coldReset s = .next
      { s with xferState := .idle, rspLen := 0, rsp := [], sw1 := none, sw2 := none, hdr := none, xcase := none,
               dout := [], doutLen := 0, busy := true, curOp := .coldReset, owner := .rs, rsKind := .cold,
               rsState := .idle, atr := [], atrLen := 0, atrValid := false, atrd := none, sessState := .ready,
               todo := .contact .coldRstLow, char := .fresh, midStep := false, history := [.accept .coldReset] } ∧
    exec .warmReset s = .next
      { s with xferState := .idle, rspLen := 0, rsp := [], sw1 := none, sw2 := none, hdr := none, xcase := none,
               dout := [], doutLen := 0, busy := true, curOp := .warmReset, owner := .rs, rsKind := .warm,
               rsState := .idle, atr := [], atrLen := 0, atrValid := false, atrd := none, sessState := .ready,
               todo := .contact .warmRstLow, char := .fresh, midStep := false, history := [.accept .warmReset] }

/-- Each contact primitive of the sequencer drives its contact and sets its register, and the flush comes between the
hold and the release, in the order of R164 to R167 and R170; the time is what the channel takes. -/
def Obligations.ContactsDriven : Prop :=
  ∀ s : State, dueMove s = none →
    (s.todo = .contact .coldRstLow → step s = .next (continueAt (.contact .coldClkOff)
      (perform (.rst false) (reply s).extra { s with pinRst := false }))) ∧
    (s.todo = .contact .coldClkOff → step s = .next (continueAt (.contact .coldVccOff)
      (perform (.clk false) (reply s).extra { s with pinClk := false }))) ∧
    (s.todo = .contact .coldVccOff → step s = .next (continueAt (.contact .coldVccOn)
      (perform (.vcc false) (reply s).extra { s with pinVcc := false }))) ∧
    (s.todo = .contact .coldVccOn → step s = .next (continueAt (.contact .vccWait)
      (perform (.vcc true) (reply s).extra { s with pinVcc := true }))) ∧
    (s.todo = .contact .clkOn → step s = .next (continueAt (.contact .clkRstLow)
      (perform (.clk true) (reply s).extra { s with pinClk := true }))) ∧
    (s.todo = .contact .clkRstLow → step s = .next (continueAt (.contact .holdWait)
      (perform (.rst false) (reply s).extra { s with pinRst := false, rsState := .clockStarted }))) ∧
    (s.todo = .contact .warmRstLow → step s = .next (continueAt (.contact .holdWait)
      (perform (.rst false) (reply s).extra { s with pinRst := false }))) ∧
    (s.todo = .contact .resetFlush → step s = .next (continueAt (.contact .rstHigh)
      (perform .flush (reply s).extra s))) ∧
    (s.todo = .contact .rstHigh → step s = .next (continueAt (.contact .released)
      (perform (.rst true) (reply s).extra { s with pinRst := true })))

/-- The two minimum waits: `t_mark` is their start, and they end no earlier than the parameter after it (R165,
R166, R167, R170, R88). A wait is no channel primitive (R10), so no step of R13 ends with it, and the status view stays
at the last completed step (R62; `midStep` and `shown` are the model's own, log entry 4). That the wait stands in the
history is the model's choice (log entry 18). -/
def Obligations.MinimumWaits : Prop :=
  ∀ s : State, dueMove s = none →
    (s.todo = .contact .vccWait → ∃ t, step s = .next t ∧ s.now + Config.vccStableCycles ≤ t.now ∧
      t = { s with tMark := some s.now, rsState := .vccStable, now := t.now, todo := .contact .clkOn,
                   midStep := true, shown := if s.midStep then s.shown else statusRegs s,
                   replies := s.replies.tail, tick := s.tick + 1,
                   history := s.history ++ [.waitUntil (s.now + Config.vccStableCycles)] }) ∧
    (s.todo = .contact .holdWait → ∃ t, step s = .next t ∧ s.now + (Config.rstHoldCycles : Nat) ≤ t.now ∧
      t = { s with tMark := some s.now, rsState := .rstAsserted, now := t.now, todo := .contact .resetFlush,
                   midStep := true, shown := if s.midStep then s.shown else statusRegs s,
                   replies := s.replies.tail, tick := s.tick + 1,
                   history := s.history ++ [.waitUntil (s.now + (Config.rstHoldCycles : Nat))] })

/-- The release is marked, and the window of 40000 cycles opens at it; the first character is awaited until its end
(R170, R171, R172). No channel primitive is made, so the status view stays at the last completed step (R62; `shown` is
the model's own). That no time passes (`now` is kept) is the model's choice (log entry 17); `todo`, `char`, `midStep`
and `history` are its own (log entry 4). -/
def Obligations.WindowOpens : Prop :=
  ∀ s : State, dueMove s = none →
    (s.todo = .contact .released → step s = .next
      { s with tMark := some s.now, rsState := .rstReleased, todo := .contact .openWindow, char := .fresh,
               midStep := true, shown := if s.midStep then s.shown else statusRegs s }) ∧
    (∀ m, s.tMark = some m → s.todo = .contact .openWindow → step s = .next
      { s with atrDeadline := some (m + 40000), rsState := .atrWindowOpen,
               todo := .micro (.rxChar 40000 (some (m + 40000))), char := .fresh, midStep := true,
               shown := if s.midStep then s.shown else statusRegs s })

/-- Every ATR character is appended at `atr_len`, whether it has a format of its own or is captured without (TA, TB,
TC, a historical byte, an illegal TS), and then the progress test is made; nothing of the state but the ATR, its
registers and the session state changes (R176, R177, R172, R184; `todo`, `char`, `midStep` and `shown` are the model's
own). That no time passes (`now` is kept) is the model's choice (log entry 17); `todo`, `char`, `midStep` and `history`
are its own (log entry 4). -/
def Obligations.AtrCharactersAppended : Prop :=
  ∀ (s : State), s.atrLen.toNat < 55 →
    (∀ (y1 k y t : BitVec 4) (tck : Byte),
      ∀ p ∈ [(Instr.atrTsDirect, (0x3B : Byte)), (.atrTsInverse, 0x3F), (.atrT0 y1 k, joinNibbles y1 k),
             (.atrTd y t, joinNibbles y t), (.atrTck tck, tck)],
        ∃ r, exec p.1 s = .next r ∧
          (∀ j, memRead r.atr j = if j = s.atrLen.toNat then some p.2 else memRead s.atr j) ∧
          r.atrLen.toNat = s.atrLen.toNat + 1 ∧
          r = atrProgress { s with atr := r.atr, atrLen := r.atrLen, rsState := .atrCaptured } ∧
          r = { s with atr := r.atr, atrLen := r.atrLen, rsState := .atrCaptured, atrd := r.atrd,
                       atrValid := r.atrValid, sessState := r.sessState, todo := r.todo, char := .fresh,
                       midStep := true }) ∧
    (∀ b : Byte, dueMove s = none → s.todo = .capture b →
      ∃ r, step s = .next { r with shown := if s.midStep then s.shown else statusRegs s } ∧
        (∀ j, memRead r.atr j = if j = s.atrLen.toNat then some b else memRead s.atr j) ∧
        r.atrLen.toNat = s.atrLen.toNat + 1 ∧
        r = atrProgress { s with atr := r.atr, atrLen := r.atrLen, rsState := .atrCaptured } ∧
        r = { s with atr := r.atr, atrLen := r.atrLen, rsState := .atrCaptured, atrd := r.atrd,
                     atrValid := r.atrValid, sessState := r.sessState, todo := r.todo, char := .fresh,
                     midStep := true })

/-- The progress test after an append: what the decoder says of the captured bytes decides (R177, R179, R181). That no
time passes (`now` is kept) is the model's choice (log entry 17); `todo`, `char`, `midStep` and `history` are its own
(log entry 4). -/
def Obligations.AtrProgressTest : Prop :=
  ∀ s : State,
    (∀ v, decodeAtr (atrBytes s.atrLen.toNat s) = .ok v → atrProgress s =
      { s with atrd := some v, atrValid := true, sessState := .active, todo := .micro .statusOk, char := .fresh,
               midStep := true }) ∧
    (∀ role b, decodeAtr (atrBytes s.atrLen.toNat s) = .error (.needs role) → s.baudDiv = some b →
      s.atrLen.toNat < 55 → atrProgress s =
        { s with todo := .micro (.rxChar ((Config.atrCharTimeoutEtu : Nat) * b.toNat) none), char := .fresh,
                 midStep := true }) ∧
    (∀ role, decodeAtr (atrBytes s.atrLen.toNat s) = .error (.needs role) → s.atrLen.toNat = 55 →
      atrProgress s = { s with todo := .micro (.statusMalformedAtr .truncated), char := .fresh, midStep := true }) ∧
    (decodeAtr (atrBytes s.atrLen.toNat s) = .error .badTs → atrProgress s =
      { s with todo := .micro (.statusMalformedAtr .badTs), char := .fresh, midStep := true }) ∧
    (decodeAtr (atrBytes s.atrLen.toNat s) = .error .checksum → atrProgress s =
      { s with todo := .micro .statusChecksumError, char := .fresh, midStep := true })

/-- The model's own stop: with the ATR buffer full, a captured character has no place and the machine faults by
name, with a format or without; no rule gets there (R71, R75; log entry 10). -/
def Obligations.AtrFullFaults : Prop :=
  ∀ (s : State) (y1 k y t : BitVec 4) (tck : Byte), 55 ≤ s.atrLen.toNat →
    (∀ i ∈ [Instr.atrTsDirect, .atrTsInverse, .atrT0 y1 k, .atrTd y t, .atrTck tck],
      exec i s = .fault .bufferRange) ∧
    (dueMove s = none → s.todo = .capture tck → step s = .fault .bufferRange)

/-! ## The ATR Decoder (42_atr_decoder.md) -/

/-- Left to right, one pass (R203): nothing is `TRUNCATED`, an illegal first byte is a bad TS whatever follows (R192);
a complete ATR with more bytes after it is `TRAILING`, a checksum error and a bad TS stay what they are, and every
shorter prefix of a complete ATR is `TRUNCATED`, of a checksum error `TRUNCATED` or that error. -/
def Obligations.DecoderPrefixes : Prop :=
  decodeAtr [] = .error (.needs .ts) ∧
  (∀ (b : Byte) (rest : List Byte), b ≠ 0x3B → b ≠ 0x3F → decodeAtr (b :: rest) = .error .badTs) ∧
  ∀ (bs more : List Byte), more ≠ [] →
    (∀ v, decodeAtr bs = .ok v → decodeAtr (bs ++ more) = .error .trailing) ∧
    (decodeAtr bs = .error .checksum → decodeAtr (bs ++ more) = .error .checksum) ∧
    (decodeAtr bs = .error .badTs → decodeAtr (bs ++ more) = .error .badTs) ∧
    (decodeAtr bs = .error .trailing → decodeAtr (bs ++ more) = .error .trailing) ∧
    ((∃ v, decodeAtr (bs ++ more) = .ok v) → ∃ role, decodeAtr bs = .error (.needs role)) ∧
    (decodeAtr (bs ++ more) = .error .checksum →
      decodeAtr bs = .error .checksum ∨ ∃ role, decodeAtr bs = .error (.needs role))

/-- The view holds the ATR whole and nothing else: its bytes in their order are the bytes decoded, `len` is their
number, and it has the structure of an ATR (R115, R191, R205). And every view with that structure is what its bytes
decode to, with a checksum error instead where a TCK leaves the exclusive-or nonzero (R191, R199). -/
def Obligations.ViewIsFaithful : Prop :=
  (∀ (bs : List Byte) (v : AtrView), decodeAtr bs = .ok v →
    v.bytes = bs ∧ (bs.length < 256 → v.len.toNat = bs.length) ∧ v.structured = true) ∧
  (∀ v : AtrView, v.structured = true →
    decodeAtr v.bytes = if v.checked = true then .ok v else .error .checksum)

/-- The fields of a view: the two legal TS, the nibbles of T0, as many historical bytes as T0 says, TCK exactly
when some TD declares a protocol other than 0, and then an exclusive-or of zero after TS (R116, R117, R120, R121). The
groups (R33, R118, R119, R195 to R197): there is one exactly when the bitmap of T0 is not 0, each is numbered from 1
and holds the bytes that its bitmap announces, bit 0 for TA to bit 3 for TD; the bitmap and the protocol are those of
T0 and none for the first, and the nibbles of the TD before it for the others; the last one's TD, if there, announces
nothing. The values of TS, the nibbles of T0 and the bits of the bitmap are the spec's general knowledge. -/
def Obligations.ViewFields : Prop :=
  ∀ (bs : List Byte) (v : AtrView), decodeAtr bs = .ok v →
    ((v.ts = 0x3B ∧ v.convention = 0) ∨ (v.ts = 0x3F ∧ v.convention = 1)) ∧
    v.k = loNibble v.t0 ∧ v.y1 = hiNibble v.t0 ∧ v.hist.length = v.k.toNat ∧
    v.tckPresent = declaresOther v.groups ∧ v.tck.isSome = v.tckPresent ∧
    (v.tckPresent = true → xorAll (bs.drop 1) = 0) ∧
    (v.groups = [] ↔ v.y1 = 0) ∧
    (∀ j g, v.groups[j]? = some g → ∃ y,
      ((j = 0 ∧ y = v.y1 ∧ g.proto = none) ∨
        (∃ before td, 0 < j ∧ v.groups[j - 1]? = some before ∧ before.td = some td ∧ y = hiNibble td ∧
          g.proto = some (loNibble td))) ∧
      y ≠ 0 ∧ g.index = j + 1 ∧ g.ta.isSome = y.getLsbD 0 ∧ g.tb.isSome = y.getLsbD 1 ∧
      g.tc.isSome = y.getLsbD 2 ∧ g.td.isSome = y.getLsbD 3) ∧
    (∀ g td, v.groups.getLast? = some g → g.td = some td → hiNibble td = 0)

/-- `DECODE_ATR`, one step: RAW holds the argument, DECD the view or no value, the response the outcome, the session
untouched (R190, R74). That no time passes (`now` is kept) is the model's choice (log entry 17); `todo`, `char`,
`midStep` and `history` are its own (log entry 4). -/
def Obligations.DecodeAtrRuns : Prop :=
  ∀ (bs : List Byte) (s : State), s.busy = false → bs.length ≤ 55 →
    ∃ t, exec (.decodeAtr bs) s = .next t ∧ (∀ j, memRead t.raw j = bs[j]?) ∧ t.rawLen.toNat = bs.length ∧
      t = { s with raw := t.raw, rawLen := t.rawLen, decd := t.decd, rspStatus := t.rspStatus,
                   rspDetail := t.rspDetail, busy := false, curOp := .none, owner := .none, todo := .idle,
                   char := .fresh, midStep := false,
                   history := [.accept .decodeAtr, .respond t.rspStatus t.rspDetail] } ∧
      (∀ v, decodeAtr bs = .ok v → t.decd = some v ∧ t.rspStatus = .ok ∧ t.rspDetail = .none) ∧
      (∀ role, decodeAtr bs = .error (.needs role) →
        t.decd = none ∧ t.rspStatus = .malformedAtr ∧ t.rspDetail = .truncated) ∧
      (decodeAtr bs = .error .badTs → t.decd = none ∧ t.rspStatus = .malformedAtr ∧ t.rspDetail = .badTs) ∧
      (decodeAtr bs = .error .trailing → t.decd = none ∧ t.rspStatus = .malformedAtr ∧ t.rspDetail = .trailing) ∧
      (decodeAtr bs = .error .checksum → t.decd = none ∧ t.rspStatus = .checksumError ∧ t.rspDetail = .none)

/-! ## The character controller (43_char_retry.md) -/

/-- `TX_CHAR` sends its byte: the first time with `retry` 0, after an error signal with one retry more while the
budget lasts (R222). One pass of its loop is one step (log entry 4). -/
def Obligations.TxCharSends : Prop :=
  ∀ (b : Byte) (s : State) (r : BitVec 8),
    ((∀ n, s.char ≠ .sent n) ∧ r = 0 ∨ s.char = .sent true ∧ s.retry ≠ s.cfgMaxIterations ∧ r = s.retry + 1) →
    exec (.txChar b) s = .next
      { s with retry := r, char := .sent (reply s).nack, todo := .micro (.txChar b),
               now := s.now + (1 + (reply s).extra), history := s.history ++ [.send b (reply s).nack],
               replies := s.replies.tail, tick := s.tick + 1, midStep := false }

/-- What ends `TX_CHAR`: the budget spent is `ParityExhausted` (R222, R252; in a state in which no rule called
`TX_CHAR` that is log entry 14), a character taken moves `idx` on: to the next header byte, the next data byte, or past
the data to SW1 (R243, R248, R250). That no time passes (`now` is kept) is the model's choice (log entry 17); `todo`,
`char`, `midStep` and `history` are its own (log entry 4). -/
def Obligations.TxCharReturns : Prop :=
  ∀ (b : Byte) (s : State) (h : Header) (d : BitVec 16), s.hdr = some h → s.baudDiv = some d →
    (s.char = .sent true → s.retry = s.cfgMaxIterations →
      exec (.txChar b) s = .next { s with todo := .micro .statusParityExhausted, char := .fresh, midStep := true }) ∧
    (s.char = .sent false → s.xferState = .sendHeader → exec (.txChar b) s = .next
      { s with idx := s.idx + 1, todo := .micro (.tpduHdr h.cla h.ins h.p1 h.p2 h.p3), char := .fresh,
               midStep := true }) ∧
    (∀ c, s.char = .sent false → s.xferState = .dataOut → (s.idx + 1).toNat < h.p3.toNat →
      memRead s.dout (s.idx + 1).toNat = some c → exec (.txChar b) s = .next
        { s with idx := s.idx + 1, todo := .micro (.txChar c), char := .fresh, midStep := true }) ∧
    (s.char = .sent false → s.xferState = .dataOut → h.p3.toNat ≤ (s.idx + 1).toNat → exec (.txChar b) s = .next
      { s with idx := s.idx + 1, todo := .micro (.rxChar ((Config.wwtEtu : Nat) * d.toNat) none), char := .fresh,
               midStep := true })

/-- `RX_CHAR` with time left makes one `ChRecv`, for its wait or for what is left to the deadline if that is less
(R225, R173); `retry` is 0 at the first try and kept after an error signal. It lasts at least 1 cycle when a character
comes, right or wrong, and at least its timeout when none does (R89 b, c); what is more is the channel's. -/
def Obligations.RxCharReceives : Prop :=
  ∀ (wait : Nat) (dl : Option Nat) (s : State) (r : BitVec 8), (∀ a, s.char ≠ .got a) →
    (s.char = .nacked ∧ r = s.retry ∨ s.char ≠ .nacked ∧ r = 0) → (∀ d, dl = some d → s.now < d) →
    ∃ t, t = (match dl with | none => wait | some d => min wait (d - s.now)) ∧
      exec (.rxChar wait dl) s = .next
        { s with retry := r, char := .got (reply s).rx, todo := .micro (.rxChar wait dl),
                 now := s.now + (match (reply s).rx with
                   | .byte _ => 1
                   | .parity _ => 1
                   | .timeout => t) + (reply s).extra,
                 history := s.history ++ [.recv t (reply s).rx],
                 replies := s.replies.tail, tick := s.tick + 1, midStep := false }

/-- What `Timeout` leads to, from a `ChRecv` that timed out or from a deadline that has passed (R225): in a transfer
`CardTimeout` (R253), before the first ATR character `AtrTimeout` and `NoCardResponse` (R172, R174), after it, in
`AtrCaptured`, `TRUNCATED` (R175, R178). In the six states of the sequencer in which it awaits no character `TRUNCATED`
is the model's choice (log entry 14), and so is `CardTimeout` where the transfer awaits none. That no time passes
(`now` is kept) is the model's choice (log entry 17); `todo`, `char`, `midStep` and `history` are its own (log entry
4). -/
def Obligations.RxCharTimesOut : Prop :=
  ∀ (wait : Nat) (dl : Option Nat) (s u : State),
    (s.char = .got .timeout ∧ u = s ∨
      (∃ d, dl = some d ∧ d ≤ s.now) ∧ (s.char = .nacked ∧ u = s ∨ s.char = .fresh ∧ u = { s with retry := 0 })) →
    (s.owner = .xfer → exec (.rxChar wait dl) s = .next
      { u with todo := .micro .statusCardTimeout, char := .fresh, midStep := true }) ∧
    (s.owner = .rs → s.rsState = .atrWindowOpen → exec (.rxChar wait dl) s = .next
      { u with rsState := .atrTimeout, todo := .micro .statusNoCardResponse, char := .fresh, midStep := true }) ∧
    (s.owner = .rs → s.rsState ≠ .atrWindowOpen → exec (.rxChar wait dl) s = .next
      { u with todo := .micro (.statusMalformedAtr .truncated), char := .fresh, midStep := true })

/-- A character with wrong parity (R225): with the budget spent no error signal is made, and the caller gets
`Exhausted`, which in a reset is `MalformedAtr` with detail `PARITY` for every character and at every time (R232, R172,
R180; in a state in which no rule called `RX_CHAR` that is log entry 14); else one `ChNack` and one retry more. That no
time passes where no `ChNack` is made is the model's choice (log entry 17); `todo`, `char`, `midStep`, `history` and the
oracle's fields are its own (log entries 2 and 4). -/
def Obligations.RxCharParityError : Prop :=
  ∀ (wait : Nat) (dl : Option Nat) (b : Byte) (c : SessionConfig) (s : State),
    s.char = .got (.parity b) → s.cfg = some c → c.nackInhibit.getLsbD 0 = false →
    (s.retry ≠ s.cfgMaxIterations → exec (.rxChar wait dl) s = .next
      { s with retry := s.retry + 1, char := .nacked, todo := .micro (.rxChar wait dl),
               now := s.now + (reply s).extra, history := s.history ++ [.nack], replies := s.replies.tail,
               tick := s.tick + 1, midStep := false }) ∧
    (s.retry = s.cfgMaxIterations → s.owner = .xfer → exec (.rxChar wait dl) s = .next
      { s with todo := .micro .statusParityExhausted, char := .fresh, midStep := true }) ∧
    (s.retry = s.cfgMaxIterations → s.owner = .rs → exec (.rxChar wait dl) s = .next
      { s with rsState := .atrCaptured, todo := .micro (.statusMalformedAtr .parity), char := .fresh,
               midStep := true })

/-- With `INACK` set, a character with wrong parity is taken as it was sampled (R226). -/
def Obligations.InhibitTakesWrongParity : Prop :=
  ∀ (wait : Nat) (dl : Option Nat) (b : Byte) (c : SessionConfig) (s : State),
    s.char = .got (.parity b) → s.cfg = some c → c.nackInhibit.getLsbD 0 = true →
    exec (.rxChar wait dl) s = exec (.rxChar wait dl) { s with char := .got (.byte b) }

/-- A character received in `AwaitProcedureByte`: the procedure byte, by its class (R245); after SW1, SW2, which is not
classified (R247). That SW2 is awaited exactly when `sw1` holds a value is how the model tells the two (log entry 19).
That no time passes (`now` is kept) is the model's choice (log entry 17); `todo`, `char`, `midStep` and `history` are
its own (log entry 4). -/
def Obligations.RxCharProcedureByte : Prop :=
  ∀ (wait : Nat) (dl : Option Nat) (b : Byte) (h : Header) (s : State),
    s.char = .got (.byte b) → s.owner = .xfer → s.xferState = .awaitProcedureByte → s.hdr = some h →
    (s.sw1 = none → exec (.rxChar wait dl) s = .next
      { s with todo := .micro (classifyProc h.ins b), char := .fresh, midStep := true }) ∧
    (s.sw1 ≠ none → exec (.rxChar wait dl) s = .next
      { s with sw2 := some b, xferState := .complete, todo := .micro .statusOk, char := .fresh, midStep := true })

/-- A character received in `DataIn` while fewer than P3 have come is stored at `idx` as it is, and after the last
`rsp_len` is P3 (R249). That no time passes (`now` is kept) is the model's choice (log entry 17); `todo`, `char`,
`midStep` and `history` are its own (log entry 4). -/
def Obligations.RxCharDataIn : Prop :=
  ∀ (wait : Nat) (dl : Option Nat) (b : Byte) (h : Header) (d : BitVec 16) (s : State),
    s.char = .got (.byte b) → s.owner = .xfer → s.xferState = .dataIn → s.hdr = some h → s.baudDiv = some d →
    s.idx.toNat < h.p3.toNat →
    ∃ t, exec (.rxChar wait dl) s = .next t ∧
      (∀ j, memRead t.rsp j = if j = s.idx.toNat then some b else memRead s.rsp j) ∧
      t = { s with rsp := t.rsp, idx := s.idx + 1,
                   rspLen := if s.idx.toNat + 1 < h.p3.toNat then s.rspLen else h.p3,
                   todo := .micro (.rxChar ((Config.wwtEtu : Nat) * d.toNat) none), char := .fresh,
                   midStep := true }

/-- The status after a data phase: the first character is SW1, the second SW2, neither classified (R248 to R250). The
model tells the two by whether `sw1` holds a value (log entry 19). That no time passes (`now` is kept) is the model's
choice (log entry 17); `todo`, `char`, `midStep` and `history` are its own (log entry 4). -/
def Obligations.RxCharStatusBytes : Prop :=
  ∀ (wait : Nat) (dl : Option Nat) (b : Byte) (h : Header) (d : BitVec 16) (s : State),
    s.char = .got (.byte b) → s.owner = .xfer → s.hdr = some h → s.baudDiv = some d →
    (s.xferState = .dataOut ∨ s.xferState = .dataIn ∧ h.p3.toNat ≤ s.idx.toNat) →
    (s.sw1 = none → exec (.rxChar wait dl) s = .next
      { s with sw1 := some b, todo := .micro (.rxChar ((Config.wwtEtu : Nat) * d.toNat) none), char := .fresh,
               midStep := true }) ∧
    (s.sw1 ≠ none → exec (.rxChar wait dl) s = .next
      { s with sw2 := some b, xferState := .complete, todo := .micro .statusOk, char := .fresh, midStep := true })

/-- A character received by the sequencer is captured as the row of its place in the structure: TS, T0, TD and TCK have
one; TA, TB, TC, a historical byte and an illegal TS are captured without (R115, R172, R175). Its place is what the
bytes captured before it leave to come: after the first `n` bytes of any ATR it is the place of byte `n`, TS, T0, the
bytes TA to TD of each group as the bitmap before it has them, the historical bytes, TCK (R115, R118 to R121); after
all of them there is none. A first character that ends with the window over is not captured: the reset ends in
`AtrTimeout` and `NoCardResponse` (R340, R174; that R340 is followed and not the pseudocode of R172 is log entry 21).
That no time passes (`now` is kept) is the model's choice (log entry 17); `todo`, `char`, `midStep` and `history` are
its own (log entry 4). -/
def Obligations.RxCharAtrByte : Prop :=
  (∀ (v : AtrView) (n : Nat), v.structured = true → nextRole (v.bytes.take n) = v.roles[n]?) ∧
  ∀ (wait : Nat) (dl : Option Nat) (b : Byte) (s : State), s.char = .got (.byte b) → s.owner = .rs →
    ((s.rsState ≠ .atrWindowOpen ∨ ∃ d, s.atrDeadline = some d ∧ s.now < d) →
      ∃ next, exec (.rxChar wait dl) s = .next { s with todo := next, char := .fresh, midStep := true } ∧
        ∀ role, nextRole (atrBytes s.atrLen.toNat s) = some role →
          (role = .ts → b = 0x3B → next = .micro .atrTsDirect) ∧
          (role = .ts → b = 0x3F → next = .micro .atrTsInverse) ∧
          (role = .ts → b ≠ 0x3B → b ≠ 0x3F → next = .capture b) ∧
          (role = .t0 → next = .micro (.atrT0 (b.extractLsb' 4 4) (b.extractLsb' 0 4))) ∧
          (role = .td → next = .micro (.atrTd (b.extractLsb' 4 4) (b.extractLsb' 0 4))) ∧
          (role = .tck → next = .micro (.atrTck b)) ∧
          (role = .ta ∨ role = .tb ∨ role = .tc ∨ role = .hist → next = .capture b)) ∧
    (∀ d, s.rsState = .atrWindowOpen → s.atrDeadline = some d → d ≤ s.now → exec (.rxChar wait dl) s = .next
      { s with rsState := .atrTimeout, todo := .micro .statusNoCardResponse, char := .fresh, midStep := true })

/-! ## The Transfer Engine (44_tpdu_transfer.md) -/

/-- The acceptance of `TRANSFER` without data (R241). That no time passes (`now` is kept) is the model's choice (log
entry 17); `todo`, `char`, `midStep` and `history` are its own (log entry 4). -/
def Obligations.TransferAccepted : Prop :=
  ∀ (cla ins p1 p2 p3 : Byte) (d : BitVec 16) (s : State), s.busy = false → s.sessState = .active →
    s.baudDiv = some d →
    exec (.transfer cla ins p1 p2 p3) s = .next
      { s with busy := true, curOp := .transfer, owner := .xfer,
               hdr := some { cla := cla, ins := ins, p1 := p1, p2 := p2, p3 := p3 },
               xcase := some (if p3 = 0 then .case1 else .case3), dout := [], doutLen := 0, rspLen := 0, rsp := [],
               sw1 := none, sw2 := none, xferDeadline := some (s.now + (Config.xferTimeoutEtu : Nat) * d.toNat),
               idx := 0, xferState := .sendHeader, todo := .flush, char := .fresh, midStep := false,
               history := [.accept .transfer] }

/-- The acceptance of `TRANSFER` with data: DOUT holds exactly the data, from index 0 (R241, R72). That no time passes
(`now` is kept) is the model's choice (log entry 17); `todo`, `char`, `midStep` and `history` are its own (log entry
4). -/
def Obligations.TransferWithDataAccepted : Prop :=
  ∀ (cla ins p1 p2 p3 : Byte) (data : List Byte) (d : BitVec 16) (s : State), s.busy = false →
    s.sessState = .active → data.length = p3.toNat → s.baudDiv = some d →
    ∃ t, exec (.transferD cla ins p1 p2 p3 data) s = .next t ∧ (∀ j, memRead t.dout j = data[j]?) ∧
      t = { s with busy := true, curOp := .transfer, owner := .xfer,
                   hdr := some { cla := cla, ins := ins, p1 := p1, p2 := p2, p3 := p3 },
                   xcase := some (if p3 = 0 then .case1 else .case2), dout := t.dout, doutLen := p3, rspLen := 0,
                   rsp := [], sw1 := none, sw2 := none,
                   xferDeadline := some (s.now + (Config.xferTimeoutEtu : Nat) * d.toNat), idx := 0,
                   xferState := .sendHeader, todo := .flush, char := .fresh, midStep := false,
                   history := [.accept .transfer] }

/-- The first step of a transfer is the flush; the header goes out after it (R242). -/
def Obligations.FlushComesFirst : Prop :=
  ∀ (h : Header) (s : State), dueMove s = none → s.todo = .flush → s.hdr = some h →
    step s = .next
      { s with now := s.now + (reply s).extra, history := s.history ++ [.flush], replies := s.replies.tail,
               tick := s.tick + 1, midStep := false, todo := .micro (.tpduHdr h.cla h.ins h.p1 h.p2 h.p3) }

/-- `SendHeader`: the header byte at `idx`, in the order CLA, INS, P1, P2, P3; after the fifth, the wait for a
procedure byte, by the work waiting time and the overall deadline (R243, R244). That no time passes (`now` is kept) is
the model's choice (log entry 17); `todo`, `char`, `midStep` and `history` are its own (log entry 4). -/
def Obligations.HeaderGoesOut : Prop :=
  ∀ (cla ins p1 p2 p3 : Byte) (s : State),
    (∀ j b, s.idx.toNat = j → [cla, ins, p1, p2, p3][j]? = some b →
      exec (.tpduHdr cla ins p1 p2 p3) s = .next { s with todo := .micro (.txChar b), char := .fresh, midStep := true }) ∧
    (∀ d dl, 5 ≤ s.idx.toNat → s.baudDiv = some d → s.xferDeadline = some dl →
      exec (.tpduHdr cla ins p1 p2 p3) s = .next
        { s with xferState := .awaitProcedureByte,
                 todo := .micro (.rxChar ((Config.wwtEtu : Nat) * d.toNat) (some dl)), char := .fresh,
                 midStep := true })

/-- NULL: remain and wait again, with the same overall deadline; a byte that is no NULL and no ACK is SW1, and SW2 is
awaited by the work waiting time alone (R245, R247). That no time passes (`now` is kept) is the model's choice (log
entry 17); `todo`, `char`, `midStep` and `history` are its own (log entry 4). -/
def Obligations.NullWaitsAndSw1IsTaken : Prop :=
  ∀ (d : BitVec 16) (s : State), s.baudDiv = some d →
    (∀ dl, s.xferDeadline = some dl → exec .procNull s = .next
      { s with todo := .micro (.rxChar ((Config.wwtEtu : Nat) * d.toNat) (some dl)), char := .fresh,
               midStep := true }) ∧
    (∀ b, exec (.procSw1 b) s = .next
      { s with sw1 := some b, todo := .micro (.rxChar ((Config.wwtEtu : Nat) * d.toNat) none), char := .fresh,
               midStep := true })

/-- ACK, as INS or as its complement: a violation in Case 1, the first data byte out in Case 2, the wait for the first
data byte in Case 3 (R245, R246). That no time passes (`now` is kept) is the model's choice (log entry 17); `todo`,
`char`, `midStep` and `history` are its own (log entry 4). -/
def Obligations.AckStartsDataPhase : Prop :=
  ∀ (pb : Byte) (h : Header) (d : BitVec 16) (s : State), s.hdr = some h → s.baudDiv = some d →
    ∀ i ∈ [Instr.procAck pb, .procAckInv pb],
      (s.xcase = some .case1 → exec i s = .next
        { s with todo := .micro .statusProtocolViolation, char := .fresh, midStep := true }) ∧
      (∀ c, s.xcase = some .case2 → h.p3 ≠ 0 → memRead s.dout 0 = some c → exec i s = .next
        { s with idx := 0, xferState := .dataOut, todo := .micro (.txChar c), char := .fresh, midStep := true }) ∧
      (s.xcase = some .case3 → h.p3 ≠ 0 → exec i s = .next
        { s with idx := 0, xferState := .dataIn, todo := .micro (.rxChar ((Config.wwtEtu : Nat) * d.toNat) none),
                 char := .fresh, midStep := true })

/-! ## Responses and errors (60_exceptions.md) -/

/-- `respond(OK)`: the common completion (R286); a transfer gives up its in-flight buffers in the same step and keeps
the Response (R251), any other command keeps all the rest. That no time passes (`now` is kept) is the model's choice
(log entry 17); `todo`, `char`, `midStep` and `history` are its own (log entry 4). -/
def Obligations.OkEndsCommand : Prop :=
  ∀ s : State,
    (s.curOp ≠ .transfer → exec .statusOk s = .next
      { s with rspStatus := .ok, rspDetail := .none, busy := false, curOp := .none, owner := .none, todo := .idle,
               char := .fresh, midStep := false, history := s.history ++ [.respond .ok .none] }) ∧
    (s.curOp = .transfer → exec .statusOk s = .next
      { s with xferState := .idle, hdr := none, xcase := none, dout := [], doutLen := 0,
               rspStatus := .ok, rspDetail := .none, busy := false, curOp := .none, owner := .none, todo := .idle,
               char := .fresh, midStep := false, history := s.history ++ [.respond .ok .none] })

/-- `raise ConfigError`: the result pair loses its value, nothing else changes but the completion (R287, R286); `raise
NoCardResponse`: the completion alone, so the session stays as it was and the contacts as driven (R288). That no time
passes (`now` is kept) is the model's choice (log entry 17); `todo`, `char`, `midStep` and `history` are its own (log
entry 4). -/
def Obligations.ConfigAndNoCardErrorsEndCommand : Prop :=
  ∀ s : State,
    exec .statusConfigError s = .next
      { s with resBaudDiv := none, resGuardTicks := none, rspStatus := .configError, rspDetail := .none,
               busy := false, curOp := .none, owner := .none, todo := .idle, char := .fresh, midStep := false,
               history := s.history ++ [.respond .configError .none] } ∧
    exec .statusNoCardResponse s = .next
      { s with rspStatus := .noCardResponse, rspDetail := .none, busy := false, curOp := .none, owner := .none,
               todo := .idle, char := .fresh, midStep := false,
               history := s.history ++ [.respond .noCardResponse .none] }

/-- `raise MalformedAtr` and `raise ChecksumError`: from a reset command the session fails and the captured bytes stay;
from `DECODE_ATR` only DECD loses its value (R289, R286, R126). That no time passes (`now` is kept) is the model's
choice (log entry 17); `todo`, `char`, `midStep` and `history` are its own (log entry 4). -/
def Obligations.AtrErrorsEndCommand : Prop :=
  ∀ (d : Detail) (s : State) (i : Instr) (st : Status) (e : Detail),
    (i = .statusMalformedAtr d ∧ st = .malformedAtr ∧ e = d ∨
      i = .statusChecksumError ∧ st = .checksumError ∧ e = .none) →
    (s.curOp = .coldReset ∨ s.curOp = .warmReset → exec i s = .next
      { s with sessState := .failed, atrValid := false, atrd := none, rspStatus := st, rspDetail := e,
               busy := false, curOp := .none, owner := .none, todo := .idle, char := .fresh, midStep := false,
               history := s.history ++ [.respond st e] }) ∧
    (s.curOp = .decodeAtr → exec i s = .next
      { s with decd := none, rspStatus := st, rspDetail := e, busy := false, curOp := .none, owner := .none,
               todo := .idle, char := .fresh, midStep := false, history := s.history ++ [.respond st e] })

/-- The three errors of a transfer: what it has gathered is discarded, `idx` and `retry` keep their values, the session
stays (R290 to R293, R286). That no time passes (`now` is kept) is the model's choice (log entry 17); `todo`, `char`,
`midStep` and `history` are its own (log entry 4). -/
def Obligations.TransferErrorsEndCommand : Prop :=
  ∀ s : State, ∀ p ∈ [(Instr.statusParityExhausted, Status.parityExhausted), (.statusCardTimeout, .cardTimeout),
      (.statusProtocolViolation, .protocolViolation)],
    exec p.1 s = .next
      { s with xferState := .idle, rspLen := 0, rsp := [], sw1 := none, sw2 := none, hdr := none, xcase := none,
               dout := [], doutLen := 0, rspStatus := p.2, rspDetail := .none, busy := false, curOp := .none,
               owner := .none, todo := .idle, char := .fresh, midStep := false,
               history := s.history ++ [.respond p.2 .none] }

/-! ## The step -/

/-- A command presented by the host and due is run, the host's move taken: a step is `exec` of the instruction its
bytes decode to, and changes nothing else when they are no command, or a command and more (R101, R105, R106, R107; that
bytes missing or left over refuse the whole is log entry 5).
While the register updates of a step are under way a due command waits: it is not taken, and the line of the command in
flight runs (R13, R296; log entry 5). -/
def Obligations.StepRunsPresentedCommand : Prop :=
  ∀ (s : State) (p : Presentation) (rest : List Presentation) (bs : List Byte), s.port = p :: rest →
    p.notBefore ≤ s.tick → p.move = .command bs →
    (s.midStep = false →
      step s = runCommand bs { s with port := rest } ∧
      (∀ i, decodeCommand bs = .ok (i, []) → step s = exec i { s with port := rest }) ∧
      (∀ i b more, decodeCommand bs = .ok (i, b :: more) → step s = .next { s with port := rest }) ∧
      (∀ e, decodeCommand bs = .error e → step s = .next { s with port := rest })) ∧
    (s.midStep = true → dueMove s = none ∧ ∀ t, step s = .next t → t.port = p :: rest)

/-- With no host move due, a step is the next line of the command in flight: `exec` of a row, whose state is kept but
for what the status view shows while a step of R13 is under way (R62). With nothing in flight time passes by what the
oracle says, and nothing else changes (log entry 12). That one step of the model is one row is the model's choice (log
entry 4). -/
def Obligations.StepRunsNextRow : Prop :=
  ∀ (s : State), dueMove s = none →
    (∀ i, s.todo = .micro i →
      (∀ t, exec i s = .next t →
        step s = .next { t with shown := if s.midStep = false ∧ t.midStep = true then statusRegs s else t.shown }) ∧
      (∀ f, exec i s = .fault f → step s = .fault f) ∧ (∀ r, exec i s = .refused r → step s = .refused r)) ∧
    (s.todo = .idle → step s = .next
      { s with now := s.now + (reply s).extra, replies := s.replies.tail, tick := s.tick + 1, midStep := false })

/-- Hardware reset: at once, whatever is in flight, every register and buffer takes its value of R64 (R320, R64);
the oracle and the host's later moves are not the block's (log entry 11). -/
def Obligations.HardwareResetStep : Prop :=
  ∀ (s : State) (p : Presentation) (rest : List Presentation), s.port = p :: rest → p.notBefore ≤ s.tick →
    p.move = .hardwareReset →
    step s = .next
      { sessState := .none, busy := false, owner := .none, curOp := .none, cfg := none, cfgMaxIterations := 3,
        baudDiv := none, guardTicks := none, pinVcc := false, pinClk := false, pinRst := false, rsState := .idle,
        rsKind := .cold, tMark := none, atrDeadline := none, atr := [], atrLen := 0, atrValid := false,
        atrd := none, xferState := .idle, hdr := none, xcase := none, dout := [], doutLen := 0, idx := 0, rsp := [],
        rspLen := 0, sw1 := none, sw2 := none, xferDeadline := none, retry := 0, rspStatus := .ok,
        rspDetail := .none, resBaudDiv := none, resGuardTicks := none, raw := [], rawLen := 0, decd := none,
        now := 0, todo := .idle, char := .fresh, midStep := false, shown := statusRegs State.reset, history := [.hardwareReset], port := rest,
        replies := s.replies, tick := s.tick }

/-- Time never goes back, but at hardware reset, which starts it anew (R46, R89, R320). -/
def Obligations.TimeNeverDecreases : Prop :=
  ∀ s t : State, step s = .next t → fetch s ≠ .hardwareReset → s.now ≤ t.now

/-- No step but a hardware reset or an `INIT` changes the configuration or the timing derived from it (R31). -/
def Obligations.ConfigurationImmutable : Prop :=
  ∀ s t : State, step s = .next t → fetch s ≠ .hardwareReset →
    (∀ bs c, fetch s = .command bs → decodeCommand bs ≠ .ok (.init c, [])) → (∀ c, s.todo ≠ .micro (.init c)) →
    t.cfg = s.cfg ∧ t.cfgMaxIterations = s.cfgMaxIterations ∧ t.baudDiv = s.baudDiv ∧ t.guardTicks = s.guardTicks

/-! ## Invariants -/

/-- Every step keeps the four buffers in their canonical form (the model's, log entry 10). -/
def Obligations.CanonicalBuffersKept : Prop :=
  ∀ s t : State, buffersCanonical s = true → step s = .next t → buffersCanonical t = true

/-- Inside a micro-operation `retry` never exceeds the budget, whatever step is taken (R42; log entry 16). -/
def Obligations.RetryBudgetKept : Prop :=
  ∀ s t : State, retryOk s = true → step s = .next t → retryOk t = true

/-- The state after hardware reset is safe, with its buffers canonical and its retry within the budget. -/
def Obligations.ResetIsSafe : Prop :=
  State.reset.safe = true ∧ buffersCanonical State.reset = true ∧ retryOk State.reset = true

/-- From a safe state every step goes on, without a fault and without a refusal, to a safe state: the session, the
command in flight, the contacts, the place in the pseudocode, the transfer's registers and the filling of the
buffers stay as the spec has them (R22 to R25, R30, R32 to R40, R71 to R75, R107). -/
def Obligations.SafeStatesStaySafe : Prop :=
  ∀ s : State, s.safe = true → ∃ t, step s = .next t ∧ t.safe = true

/-- `rs_state` moves only as the table says, but at hardware reset (R186). -/
def Obligations.ResetSequencerMoves : Prop :=
  ∀ s t : State, s.safe = true → step s = .next t → fetch s ≠ .hardwareReset → rsMoves s.rsState t.rsState = true

/-- `xfer_state` moves only as the table says (R255). -/
def Obligations.TransferEngineMoves : Prop :=
  ∀ s t : State, s.safe = true → step s = .next t → xferMoves s.xferState t.xferState = true

/-- A transfer writes nothing of the session, of the ATR or of the contacts (R240, R184). -/
def Obligations.TransferLeavesSession : Prop :=
  ∀ s t : State, s.safe = true → s.curOp = .transfer → dueMove s = none → step s = .next t →
    t.sessState = s.sessState ∧ t.cfg = s.cfg ∧ t.cfgMaxIterations = s.cfgMaxIterations ∧ t.baudDiv = s.baudDiv ∧
    t.guardTicks = s.guardTicks ∧ t.atr = s.atr ∧ t.atrLen = s.atrLen ∧ t.atrValid = s.atrValid ∧
    t.atrd = s.atrd ∧ t.rsState = s.rsState ∧ t.pinVcc = s.pinVcc ∧ t.pinClk = s.pinClk ∧ t.pinRst = s.pinRst

/-- A warm reset never changes the card's power and clock (R163). -/
def Obligations.WarmResetKeepsPower : Prop :=
  ∀ s t : State, s.safe = true → s.curOp = .warmReset → dueMove s = none → step s = .next t →
    t.pinVcc = true ∧ t.pinClk = true ∧ s.pinVcc = true ∧ s.pinClk = true

/-! ## What the host reads -/

/-- The status view by its numbers: the code of every register, the timing and the configuration only in a session, the
reserved numbers as 0; while the register updates of a step are under way it stays as of the last completed step (R62,
R63, with the codes of R21, R23, R24, R26, R27, R34, R36, R125, R126). And the payloads (R76, R331): each is read from
its places, `INIT`'s with the handle 0 (R7, R150; that it is readable exactly while the result pair is the session's is
log entry 20). Each stays through the acceptance, the steps and the end of every command that does not write its places,
and is gone with those that do: a successful `INIT` ends a reset's, a pre-empting reset a transfer's. -/
def Obligations.StatusViewReads : Prop :=
  (∀ s t : State, step s = .next t → t.midStep = true → ∀ no, statusView no t = statusView no s) ∧
  (∀ s : State, s.midStep = false →
    statusView 0 s = some (match s.sessState with | .none => 0 | .ready => 1 | .active => 2 | .failed => 3) ∧
    statusView 1 s = some (if s.busy then 1 else 0) ∧
    statusView 2 s = some (match s.owner with | .none => 0 | .rs => 1 | .xfer => 2) ∧
    statusView 3 s = some (match s.curOp with
      | .none => 0 | .init => 1 | .deriveTiming => 2 | .coldReset => 3 | .warmReset => 4 | .transfer => 5
      | .decodeAtr => 6) ∧
    statusView 4 s = some (match s.rsState with
      | .idle => 0 | .vccStable => 1 | .clockStarted => 2 | .rstAsserted => 3 | .rstReleased => 4
      | .atrWindowOpen => 5 | .atrCaptured => 6 | .atrTimeout => 7) ∧
    statusView 5 s = some (match s.rsKind with | .cold => 0 | .warm => 1) ∧
    statusView 6 s = some (match s.xferState with
      | .idle => 0 | .sendHeader => 1 | .awaitProcedureByte => 2 | .dataOut => 3 | .dataIn => 4 | .complete => 5) ∧
    statusView 7 s = (match s.xcase with
      | none => none | some .case1 => some 1 | some .case2 => some 2 | some .case3 => some 3) ∧
    statusView 8 s = some (if s.pinVcc then 1 else 0) ∧
    statusView 9 s = some (if s.pinClk then 1 else 0) ∧
    statusView 10 s = some (if s.pinRst then 1 else 0) ∧
    statusView 11 s = some (s.atrLen.setWidth 96) ∧
    statusView 12 s = some (if s.atrValid then 1 else 0) ∧
    statusView 13 s = some (match s.rspStatus with
      | .ok => 0 | .configError => 1 | .noCardResponse => 2 | .malformedAtr => 3 | .checksumError => 4
      | .parityExhausted => 5 | .cardTimeout => 6 | .protocolViolation => 7) ∧
    statusView 14 s = some (match s.rspDetail with
      | .none => 0 | .badTs => 1 | .truncated => 2 | .trailing => 3 | .parity => 4) ∧
    statusView 15 s = some (s.rspLen.setWidth 96) ∧
    statusView 16 s = some (s.idx.setWidth 96) ∧
    statusView 17 s = some (s.retry.setWidth 96) ∧
    (s.sessState = .none → statusView 18 s = none ∧ statusView 19 s = none ∧ statusView 20 s = none) ∧
    (∀ b, s.sessState ≠ .none → s.baudDiv = some b → statusView 18 s = some (b.setWidth 96)) ∧
    (∀ g, s.sessState ≠ .none → s.guardTicks = some g → statusView 19 s = some (g.setWidth 96)) ∧
    (∀ c, s.sessState ≠ .none → s.cfg = some c →
      ∃ w, statusView 20 s = some w ∧ cfgOfArg (cfgOfWord w) = c ∧
        (cfgOfWord w).maxIterations = s.cfgMaxIterations ∧ (cfgOfWord w).reserved = 0) ∧
    statusView 21 s = some (s.doutLen.setWidth 96) ∧
    statusView 22 s = some (s.rawLen.setWidth 96) ∧
    (∀ no : BitVec 5, 23 ≤ no.toNat → statusView no s = some 0)) ∧
  (∀ s : State,
    (∀ b g, s.resBaudDiv = some b → s.resGuardTicks = some g →
      payload .deriveTiming s = .timing b g ∧
      (s.baudDiv = some b → s.guardTicks = some g → payload .init s = .session 0 b g)) ∧
    (s.resBaudDiv = none ∨ s.resGuardTicks = none → payload .deriveTiming s = .none ∧ payload .init s = .none) ∧
    (s.resBaudDiv ≠ s.baudDiv ∨ s.resGuardTicks ≠ s.guardTicks → payload .init s = .none) ∧
    (∀ v, s.curOp ≠ .coldReset → s.curOp ≠ .warmReset → s.atrd = some v →
      (s.rsKind = .cold → payload .coldReset s = .atr ((List.range s.atrLen.toNat).map (memRead s.atr)) v) ∧
      (s.rsKind = .warm → payload .warmReset s = .atr ((List.range s.atrLen.toNat).map (memRead s.atr)) v)) ∧
    (s.curOp ≠ .coldReset → s.curOp ≠ .warmReset → s.atrd = none →
      s.rsState = .atrCaptured ∨ s.rsState = .atrTimeout →
      (s.rsKind = .cold → payload .coldReset s = .partialAtr ((List.range s.atrLen.toNat).map (memRead s.atr))) ∧
      (s.rsKind = .warm → payload .warmReset s = .partialAtr ((List.range s.atrLen.toNat).map (memRead s.atr)))) ∧
    (s.curOp = .coldReset ∨ s.curOp = .warmReset → payload .coldReset s = .none ∧ payload .warmReset s = .none) ∧
    (s.atrd = none → s.rsState ≠ .atrCaptured → s.rsState ≠ .atrTimeout →
      payload .coldReset s = .none ∧ payload .warmReset s = .none) ∧
    (s.rsKind = .warm → payload .coldReset s = .none) ∧ (s.rsKind = .cold → payload .warmReset s = .none) ∧
    (∀ v, s.decd = some v → payload .decodeAtr s = .view v) ∧
    (s.decd = none → payload .decodeAtr s = .none) ∧
    (∀ a b, s.curOp ≠ .transfer → s.sw1 = some a → s.sw2 = some b →
      payload .transfer s = .response ((List.range s.rspLen.toNat).map (memRead s.rsp)) a b) ∧
    (s.curOp = .transfer ∨ s.sw1 = none ∨ s.sw2 = none → payload .transfer s = .none) ∧
    (s.curOp = .none →
      (∀ d t, exec (.deriveTiming d) s = .next t →
        ∀ op ∈ [Op.coldReset, .warmReset, .transfer, .decodeAtr], payload op t = payload op s) ∧
      (∀ bs t, exec (.decodeAtr bs) s = .next t →
        ∀ op ∈ [Op.init, .deriveTiming, .coldReset, .warmReset, .transfer], payload op t = payload op s) ∧
      (∀ c t, exec (.init c) s = .next t → ∀ op ∈ [Op.transfer, .decodeAtr], payload op t = payload op s) ∧
      (∀ c t, s.busy = false → exec (.init c) s = .next t →
        (t.rspStatus = .ok → payload .coldReset t = .none ∧ payload .warmReset t = .none ∧
          ∃ b g, payload .init t = .session 0 b g) ∧
        (t.rspStatus ≠ .ok → payload .coldReset t = payload .coldReset s ∧ payload .warmReset t = payload .warmReset s)) ∧
      (∀ i ∈ [Instr.coldReset, .warmReset], ∀ t, exec i s = .next t →
        ∀ op ∈ [Op.init, .deriveTiming, .transfer, .decodeAtr], payload op t = payload op s) ∧
      (∀ cla ins p1 p2 p3 data, ∀ i ∈ [Instr.transfer cla ins p1 p2 p3, .transferD cla ins p1 p2 p3 data],
        ∀ t, exec i s = .next t →
          ∀ op ∈ [Op.init, .deriveTiming, .coldReset, .warmReset, .decodeAtr], payload op t = payload op s)) ∧
    (s.curOp = .transfer →
      (∀ i ∈ [Instr.statusOk, .statusParityExhausted, .statusCardTimeout, .statusProtocolViolation],
        ∀ t, exec i s = .next t →
          ∀ op ∈ [Op.init, .deriveTiming, .coldReset, .warmReset, .decodeAtr], payload op t = payload op s) ∧
      (s.busy = true → ∀ i ∈ [Instr.coldReset, .warmReset], ∀ t, exec i s = .next t → payload .transfer t = .none ∧
        ∀ op ∈ [Op.init, .deriveTiming, .decodeAtr], payload op t = payload op s))) ∧
  (∀ s t : State, s.safe = true → step s = .next t →
    (s.curOp = .coldReset ∨ s.curOp = .warmReset → fetch s ≠ .hardwareReset →
      ∀ op ∈ [Op.init, .deriveTiming, .transfer, .decodeAtr], payload op t = payload op s) ∧
    (s.curOp = .transfer → dueMove s = none →
      ∀ op ∈ [Op.init, .deriveTiming, .coldReset, .warmReset, .decodeAtr], payload op t = payload op s))
end

