-- ==== Sys2Proof/Laws/Memory.lean ====
section
/-! SUPPORT. The laws of the buffers: a read after a write, the canonical form kept by every operation, and how far
a buffer is filled (20_memory.md R70 to R75). -/

namespace Sys2Proof.Machine

/-! ## A read after a write -/

theorem memRead_memWrite_same (m : Memory) (i : Nat) (v : Byte) : memRead (memWrite m i v) i = some v := by
  induction m with
  | nil => simp [memWrite, memRead]
  | cons c m ih =>
    obtain ⟨a, b⟩ := c
    simp only [memWrite]
    split_ifs with h1 h2
    · simp [memRead]
    · simp [memRead]
    · simpa [memRead, Ne.symm h2] using ih

theorem memRead_memWrite_other (m : Memory) {i j : Nat} (v : Byte) (h : j ≠ i) :
    memRead (memWrite m i v) j = memRead m j := by
  induction m with
  | nil => simp [memWrite, memRead, Ne.symm h]
  | cons c m ih =>
    obtain ⟨a, b⟩ := c
    simp only [memWrite]
    split_ifs with h1 h2
    · simp [memRead, Ne.symm h]
    · subst h2; simp [memRead, Ne.symm h]
    · simp [memRead, ih]

/-- `memStore` says all it can do: within the buffer it writes one byte, outside it answers nothing. -/
theorem memStore_eq_some {size i : Nat} {m m' : Memory} {v : Byte} (h : memStore size m i v = some m') :
    i < size ∧ m' = memWrite m i v := by
  unfold memStore at h
  split at h
  · exact ⟨‹_›, (Option.some.inj h).symm⟩
  · cases h

/-! ## The canonical form -/

theorem wf_iff_pairwise (m : Memory) : m.wf = true ↔ (m.map Prod.fst).Pairwise (· < ·) := by
  induction m with
  | nil => simp [Memory.wf]
  | cons c m ih =>
    cases m with
    | nil => simp [Memory.wf]
    | cons d m =>
      simp only [Memory.wf, Bool.and_eq_true, decide_eq_true_eq, ih, List.map_cons, List.pairwise_cons,
        List.mem_cons, forall_eq_or_imp]
      refine ⟨fun ⟨h, h2, h3⟩ => ⟨⟨h, fun x hx => h.trans (h2 x hx)⟩, h2, h3⟩, fun ⟨h, h2⟩ => ⟨h.1, h2⟩⟩

theorem mem_keys_memWrite (m : Memory) (i : Nat) (v : Byte) {k : Nat}
    (h : k ∈ (memWrite m i v).map Prod.fst) : k = i ∨ k ∈ m.map Prod.fst := by
  induction m with
  | nil => simpa [memWrite] using h
  | cons c m ih =>
    obtain ⟨a, b⟩ := c
    simp only [memWrite] at h
    split_ifs at h with h1 h2
    · simpa using h
    · subst h2; simpa using h
    · simp only [List.map_cons, List.mem_cons] at h ⊢
      rcases h with h | h
      · exact .inr (.inl h)
      · exact (ih h).imp_right .inr

theorem memWrite_wf (m : Memory) (i : Nat) (v : Byte) (h : m.wf = true) : (memWrite m i v).wf = true := by
  rw [wf_iff_pairwise] at h ⊢
  induction m with
  | nil => simp [memWrite]
  | cons c m ih =>
    obtain ⟨a, b⟩ := c
    simp only [List.map_cons, List.pairwise_cons] at h
    simp only [memWrite]
    split_ifs with h1 h2
    · simp only [List.map_cons, List.pairwise_cons, List.mem_cons, forall_eq_or_imp]
      exact ⟨⟨h1, fun x hx => h1.trans (h.1 x hx)⟩, h⟩
    · subst h2; simpa using h
    · simp only [List.map_cons, List.pairwise_cons]
      refine ⟨fun x hx => ?_, ih h.2⟩
      rcases mem_keys_memWrite m i v hx with rfl | hx
      · omega
      · exact h.1 x hx

theorem memStore_wf {size i : Nat} {m m' : Memory} {v : Byte} (h : memStore size m i v = some m')
    (hm : m.wf = true) : m'.wf = true := by
  obtain ⟨-, rfl⟩ := memStore_eq_some h
  exact memWrite_wf m i v hm

theorem keys_memFrom (bs : List Byte) (k : Nat) : (memFrom k bs).map Prod.fst = List.range' k bs.length := by
  induction bs generalizing k with
  | nil => rfl
  | cons b bs ih => simp [memFrom, ih, List.range'_succ]

theorem memOfBytes_wf (bs : List Byte) : (memOfBytes bs).wf = true := by
  rw [wf_iff_pairwise, memOfBytes, keys_memFrom]
  exact List.pairwise_lt_range'

theorem memRead_memFrom (bs : List Byte) (k i : Nat) : memRead (memFrom k bs) (k + i) = bs[i]? := by
  induction bs generalizing k i with
  | nil => rfl
  | cons b bs ih =>
    cases i with
    | zero => simp [memFrom, memRead]
    | succ i =>
      have e : k + (i + 1) = k + 1 + i := by omega
      simp [memFrom, memRead, e, ih]
      omega

/-- A buffer filled from bytes reads as those bytes, and beyond them holds no value (R72, R74). -/
theorem memRead_memOfBytes (bs : List Byte) (i : Nat) : memRead (memOfBytes bs) i = bs[i]? := by
  simpa [memOfBytes] using memRead_memFrom bs 0 i

theorem reset_buffersCanonical : buffersCanonical State.reset = true := rfl

/-! ## How far a buffer is filled -/

theorem filledBelow_nil : filledBelow [] 0 = true := rfl

theorem filledBelow_memOfBytes (bs : List Byte) : filledBelow (memOfBytes bs) bs.length = true := by
  simp [filledBelow, memOfBytes, keys_memFrom, List.range_eq_range']

theorem keys_memWrite_end (m : Memory) (b : Byte) (k n : Nat) (h : m.map Prod.fst = List.range' k n) :
    (memWrite m (k + n) b).map Prod.fst = List.range' k (n + 1) := by
  induction m generalizing k n with
  | nil => cases n with
    | zero => simp [memWrite]
    | succ n => simp [List.range'_succ] at h
  | cons c m ih =>
    obtain ⟨a, x⟩ := c
    cases n with
    | zero => simp at h
    | succ n =>
      simp only [List.map_cons, List.range'_succ, List.cons.injEq] at h
      obtain ⟨rfl, h⟩ := h
      have e : a + (n + 1) = a + 1 + n := by omega
      rw [e, memWrite, if_neg (by omega), if_neg (by omega)]
      simp [ih (a + 1) n h, List.range'_succ]

/-- The append to a buffer filled below `n` (R71, R73). -/
theorem filledBelow_memWrite {m : Memory} {n : Nat} (b : Byte) (h : filledBelow m n = true) :
    filledBelow (memWrite m n b) (n + 1) = true := by
  simp only [filledBelow, beq_iff_eq, List.range_eq_range'] at *
  simpa using keys_memWrite_end m b 0 n h

theorem wf_of_filledBelow {m : Memory} {n : Nat} (h : filledBelow m n = true) : m.wf = true := by
  rw [wf_iff_pairwise, beq_iff_eq.mp h]
  exact List.pairwise_lt_range

end Sys2Proof.Machine
end

