-- ==== Sys2Proof/Laws/State.lean ====
section
/-! SUPPORT. What each named update of the state does to each field: one lemma a field, each by definition. -/

namespace Sys2Proof.Machine

/-! ## `perform` -/

@[simp] theorem perform_sessState (ev : Event) (dt : Nat) (s : State) : (perform ev dt s).sessState = s.sessState := rfl
@[simp] theorem perform_busy (ev : Event) (dt : Nat) (s : State) : (perform ev dt s).busy = s.busy := rfl
@[simp] theorem perform_owner (ev : Event) (dt : Nat) (s : State) : (perform ev dt s).owner = s.owner := rfl
@[simp] theorem perform_curOp (ev : Event) (dt : Nat) (s : State) : (perform ev dt s).curOp = s.curOp := rfl
@[simp] theorem perform_cfg (ev : Event) (dt : Nat) (s : State) : (perform ev dt s).cfg = s.cfg := rfl
@[simp] theorem perform_cfgMaxIterations (ev : Event) (dt : Nat) (s : State) : (perform ev dt s).cfgMaxIterations = s.cfgMaxIterations := rfl
@[simp] theorem perform_baudDiv (ev : Event) (dt : Nat) (s : State) : (perform ev dt s).baudDiv = s.baudDiv := rfl
@[simp] theorem perform_guardTicks (ev : Event) (dt : Nat) (s : State) : (perform ev dt s).guardTicks = s.guardTicks := rfl
@[simp] theorem perform_pinVcc (ev : Event) (dt : Nat) (s : State) : (perform ev dt s).pinVcc = s.pinVcc := rfl
@[simp] theorem perform_shown (ev : Event) (dt : Nat) (s : State) : (perform ev dt s).shown = s.shown := rfl
@[simp] theorem perform_pinClk (ev : Event) (dt : Nat) (s : State) : (perform ev dt s).pinClk = s.pinClk := rfl
@[simp] theorem perform_pinRst (ev : Event) (dt : Nat) (s : State) : (perform ev dt s).pinRst = s.pinRst := rfl
@[simp] theorem perform_rsState (ev : Event) (dt : Nat) (s : State) : (perform ev dt s).rsState = s.rsState := rfl
@[simp] theorem perform_rsKind (ev : Event) (dt : Nat) (s : State) : (perform ev dt s).rsKind = s.rsKind := rfl
@[simp] theorem perform_tMark (ev : Event) (dt : Nat) (s : State) : (perform ev dt s).tMark = s.tMark := rfl
@[simp] theorem perform_atrDeadline (ev : Event) (dt : Nat) (s : State) : (perform ev dt s).atrDeadline = s.atrDeadline := rfl
@[simp] theorem perform_atr (ev : Event) (dt : Nat) (s : State) : (perform ev dt s).atr = s.atr := rfl
@[simp] theorem perform_atrLen (ev : Event) (dt : Nat) (s : State) : (perform ev dt s).atrLen = s.atrLen := rfl
@[simp] theorem perform_atrValid (ev : Event) (dt : Nat) (s : State) : (perform ev dt s).atrValid = s.atrValid := rfl
@[simp] theorem perform_atrd (ev : Event) (dt : Nat) (s : State) : (perform ev dt s).atrd = s.atrd := rfl
@[simp] theorem perform_xferState (ev : Event) (dt : Nat) (s : State) : (perform ev dt s).xferState = s.xferState := rfl
@[simp] theorem perform_hdr (ev : Event) (dt : Nat) (s : State) : (perform ev dt s).hdr = s.hdr := rfl
@[simp] theorem perform_xcase (ev : Event) (dt : Nat) (s : State) : (perform ev dt s).xcase = s.xcase := rfl
@[simp] theorem perform_dout (ev : Event) (dt : Nat) (s : State) : (perform ev dt s).dout = s.dout := rfl
@[simp] theorem perform_doutLen (ev : Event) (dt : Nat) (s : State) : (perform ev dt s).doutLen = s.doutLen := rfl
@[simp] theorem perform_idx (ev : Event) (dt : Nat) (s : State) : (perform ev dt s).idx = s.idx := rfl
@[simp] theorem perform_rsp (ev : Event) (dt : Nat) (s : State) : (perform ev dt s).rsp = s.rsp := rfl
@[simp] theorem perform_rspLen (ev : Event) (dt : Nat) (s : State) : (perform ev dt s).rspLen = s.rspLen := rfl
@[simp] theorem perform_sw1 (ev : Event) (dt : Nat) (s : State) : (perform ev dt s).sw1 = s.sw1 := rfl
@[simp] theorem perform_sw2 (ev : Event) (dt : Nat) (s : State) : (perform ev dt s).sw2 = s.sw2 := rfl
@[simp] theorem perform_xferDeadline (ev : Event) (dt : Nat) (s : State) : (perform ev dt s).xferDeadline = s.xferDeadline := rfl
@[simp] theorem perform_retry (ev : Event) (dt : Nat) (s : State) : (perform ev dt s).retry = s.retry := rfl
@[simp] theorem perform_rspStatus (ev : Event) (dt : Nat) (s : State) : (perform ev dt s).rspStatus = s.rspStatus := rfl
@[simp] theorem perform_rspDetail (ev : Event) (dt : Nat) (s : State) : (perform ev dt s).rspDetail = s.rspDetail := rfl
@[simp] theorem perform_resBaudDiv (ev : Event) (dt : Nat) (s : State) : (perform ev dt s).resBaudDiv = s.resBaudDiv := rfl
@[simp] theorem perform_resGuardTicks (ev : Event) (dt : Nat) (s : State) : (perform ev dt s).resGuardTicks = s.resGuardTicks := rfl
@[simp] theorem perform_raw (ev : Event) (dt : Nat) (s : State) : (perform ev dt s).raw = s.raw := rfl
@[simp] theorem perform_rawLen (ev : Event) (dt : Nat) (s : State) : (perform ev dt s).rawLen = s.rawLen := rfl
@[simp] theorem perform_decd (ev : Event) (dt : Nat) (s : State) : (perform ev dt s).decd = s.decd := rfl
@[simp] theorem perform_now (ev : Event) (dt : Nat) (s : State) : (perform ev dt s).now = s.now + dt := rfl
@[simp] theorem perform_todo (ev : Event) (dt : Nat) (s : State) : (perform ev dt s).todo = s.todo := rfl
@[simp] theorem perform_char (ev : Event) (dt : Nat) (s : State) : (perform ev dt s).char = s.char := rfl
@[simp] theorem perform_midStep (ev : Event) (dt : Nat) (s : State) : (perform ev dt s).midStep = false := rfl
@[simp] theorem perform_history (ev : Event) (dt : Nat) (s : State) : (perform ev dt s).history = s.history ++ [ev] := rfl
@[simp] theorem perform_port (ev : Event) (dt : Nat) (s : State) : (perform ev dt s).port = s.port := rfl
@[simp] theorem perform_replies (ev : Event) (dt : Nat) (s : State) : (perform ev dt s).replies = s.replies.tail := rfl
@[simp] theorem perform_tick (ev : Event) (dt : Nat) (s : State) : (perform ev dt s).tick = s.tick + 1 := rfl

/-! ## `goto` -/

@[simp] theorem goto_sessState (t : Todo) (s : State) : (goto t s).sessState = s.sessState := rfl
@[simp] theorem goto_busy (t : Todo) (s : State) : (goto t s).busy = s.busy := rfl
@[simp] theorem goto_owner (t : Todo) (s : State) : (goto t s).owner = s.owner := rfl
@[simp] theorem goto_curOp (t : Todo) (s : State) : (goto t s).curOp = s.curOp := rfl
@[simp] theorem goto_cfg (t : Todo) (s : State) : (goto t s).cfg = s.cfg := rfl
@[simp] theorem goto_cfgMaxIterations (t : Todo) (s : State) : (goto t s).cfgMaxIterations = s.cfgMaxIterations := rfl
@[simp] theorem goto_baudDiv (t : Todo) (s : State) : (goto t s).baudDiv = s.baudDiv := rfl
@[simp] theorem goto_guardTicks (t : Todo) (s : State) : (goto t s).guardTicks = s.guardTicks := rfl
@[simp] theorem goto_pinVcc (t : Todo) (s : State) : (goto t s).pinVcc = s.pinVcc := rfl
@[simp] theorem goto_shown (t : Todo) (s : State) : (goto t s).shown = s.shown := rfl
@[simp] theorem goto_pinClk (t : Todo) (s : State) : (goto t s).pinClk = s.pinClk := rfl
@[simp] theorem goto_pinRst (t : Todo) (s : State) : (goto t s).pinRst = s.pinRst := rfl
@[simp] theorem goto_rsState (t : Todo) (s : State) : (goto t s).rsState = s.rsState := rfl
@[simp] theorem goto_rsKind (t : Todo) (s : State) : (goto t s).rsKind = s.rsKind := rfl
@[simp] theorem goto_tMark (t : Todo) (s : State) : (goto t s).tMark = s.tMark := rfl
@[simp] theorem goto_atrDeadline (t : Todo) (s : State) : (goto t s).atrDeadline = s.atrDeadline := rfl
@[simp] theorem goto_atr (t : Todo) (s : State) : (goto t s).atr = s.atr := rfl
@[simp] theorem goto_atrLen (t : Todo) (s : State) : (goto t s).atrLen = s.atrLen := rfl
@[simp] theorem goto_atrValid (t : Todo) (s : State) : (goto t s).atrValid = s.atrValid := rfl
@[simp] theorem goto_atrd (t : Todo) (s : State) : (goto t s).atrd = s.atrd := rfl
@[simp] theorem goto_xferState (t : Todo) (s : State) : (goto t s).xferState = s.xferState := rfl
@[simp] theorem goto_hdr (t : Todo) (s : State) : (goto t s).hdr = s.hdr := rfl
@[simp] theorem goto_xcase (t : Todo) (s : State) : (goto t s).xcase = s.xcase := rfl
@[simp] theorem goto_dout (t : Todo) (s : State) : (goto t s).dout = s.dout := rfl
@[simp] theorem goto_doutLen (t : Todo) (s : State) : (goto t s).doutLen = s.doutLen := rfl
@[simp] theorem goto_idx (t : Todo) (s : State) : (goto t s).idx = s.idx := rfl
@[simp] theorem goto_rsp (t : Todo) (s : State) : (goto t s).rsp = s.rsp := rfl
@[simp] theorem goto_rspLen (t : Todo) (s : State) : (goto t s).rspLen = s.rspLen := rfl
@[simp] theorem goto_sw1 (t : Todo) (s : State) : (goto t s).sw1 = s.sw1 := rfl
@[simp] theorem goto_sw2 (t : Todo) (s : State) : (goto t s).sw2 = s.sw2 := rfl
@[simp] theorem goto_xferDeadline (t : Todo) (s : State) : (goto t s).xferDeadline = s.xferDeadline := rfl
@[simp] theorem goto_retry (t : Todo) (s : State) : (goto t s).retry = s.retry := rfl
@[simp] theorem goto_rspStatus (t : Todo) (s : State) : (goto t s).rspStatus = s.rspStatus := rfl
@[simp] theorem goto_rspDetail (t : Todo) (s : State) : (goto t s).rspDetail = s.rspDetail := rfl
@[simp] theorem goto_resBaudDiv (t : Todo) (s : State) : (goto t s).resBaudDiv = s.resBaudDiv := rfl
@[simp] theorem goto_resGuardTicks (t : Todo) (s : State) : (goto t s).resGuardTicks = s.resGuardTicks := rfl
@[simp] theorem goto_raw (t : Todo) (s : State) : (goto t s).raw = s.raw := rfl
@[simp] theorem goto_rawLen (t : Todo) (s : State) : (goto t s).rawLen = s.rawLen := rfl
@[simp] theorem goto_decd (t : Todo) (s : State) : (goto t s).decd = s.decd := rfl
@[simp] theorem goto_now (t : Todo) (s : State) : (goto t s).now = s.now := rfl
@[simp] theorem goto_todo (t : Todo) (s : State) : (goto t s).todo = t := rfl
@[simp] theorem goto_char (t : Todo) (s : State) : (goto t s).char = .fresh := rfl
@[simp] theorem goto_midStep (t : Todo) (s : State) : (goto t s).midStep = true := rfl
@[simp] theorem goto_history (t : Todo) (s : State) : (goto t s).history = s.history := rfl
@[simp] theorem goto_port (t : Todo) (s : State) : (goto t s).port = s.port := rfl
@[simp] theorem goto_replies (t : Todo) (s : State) : (goto t s).replies = s.replies := rfl
@[simp] theorem goto_tick (t : Todo) (s : State) : (goto t s).tick = s.tick := rfl

/-! ## `continueAt` -/

@[simp] theorem continueAt_sessState (t : Todo) (s : State) : (continueAt t s).sessState = s.sessState := rfl
@[simp] theorem continueAt_busy (t : Todo) (s : State) : (continueAt t s).busy = s.busy := rfl
@[simp] theorem continueAt_owner (t : Todo) (s : State) : (continueAt t s).owner = s.owner := rfl
@[simp] theorem continueAt_curOp (t : Todo) (s : State) : (continueAt t s).curOp = s.curOp := rfl
@[simp] theorem continueAt_cfg (t : Todo) (s : State) : (continueAt t s).cfg = s.cfg := rfl
@[simp] theorem continueAt_cfgMaxIterations (t : Todo) (s : State) : (continueAt t s).cfgMaxIterations = s.cfgMaxIterations := rfl
@[simp] theorem continueAt_baudDiv (t : Todo) (s : State) : (continueAt t s).baudDiv = s.baudDiv := rfl
@[simp] theorem continueAt_guardTicks (t : Todo) (s : State) : (continueAt t s).guardTicks = s.guardTicks := rfl
@[simp] theorem continueAt_pinVcc (t : Todo) (s : State) : (continueAt t s).pinVcc = s.pinVcc := rfl
@[simp] theorem continueAt_shown (t : Todo) (s : State) : (continueAt t s).shown = s.shown := rfl
@[simp] theorem continueAt_pinClk (t : Todo) (s : State) : (continueAt t s).pinClk = s.pinClk := rfl
@[simp] theorem continueAt_pinRst (t : Todo) (s : State) : (continueAt t s).pinRst = s.pinRst := rfl
@[simp] theorem continueAt_rsState (t : Todo) (s : State) : (continueAt t s).rsState = s.rsState := rfl
@[simp] theorem continueAt_rsKind (t : Todo) (s : State) : (continueAt t s).rsKind = s.rsKind := rfl
@[simp] theorem continueAt_tMark (t : Todo) (s : State) : (continueAt t s).tMark = s.tMark := rfl
@[simp] theorem continueAt_atrDeadline (t : Todo) (s : State) : (continueAt t s).atrDeadline = s.atrDeadline := rfl
@[simp] theorem continueAt_atr (t : Todo) (s : State) : (continueAt t s).atr = s.atr := rfl
@[simp] theorem continueAt_atrLen (t : Todo) (s : State) : (continueAt t s).atrLen = s.atrLen := rfl
@[simp] theorem continueAt_atrValid (t : Todo) (s : State) : (continueAt t s).atrValid = s.atrValid := rfl
@[simp] theorem continueAt_atrd (t : Todo) (s : State) : (continueAt t s).atrd = s.atrd := rfl
@[simp] theorem continueAt_xferState (t : Todo) (s : State) : (continueAt t s).xferState = s.xferState := rfl
@[simp] theorem continueAt_hdr (t : Todo) (s : State) : (continueAt t s).hdr = s.hdr := rfl
@[simp] theorem continueAt_xcase (t : Todo) (s : State) : (continueAt t s).xcase = s.xcase := rfl
@[simp] theorem continueAt_dout (t : Todo) (s : State) : (continueAt t s).dout = s.dout := rfl
@[simp] theorem continueAt_doutLen (t : Todo) (s : State) : (continueAt t s).doutLen = s.doutLen := rfl
@[simp] theorem continueAt_idx (t : Todo) (s : State) : (continueAt t s).idx = s.idx := rfl
@[simp] theorem continueAt_rsp (t : Todo) (s : State) : (continueAt t s).rsp = s.rsp := rfl
@[simp] theorem continueAt_rspLen (t : Todo) (s : State) : (continueAt t s).rspLen = s.rspLen := rfl
@[simp] theorem continueAt_sw1 (t : Todo) (s : State) : (continueAt t s).sw1 = s.sw1 := rfl
@[simp] theorem continueAt_sw2 (t : Todo) (s : State) : (continueAt t s).sw2 = s.sw2 := rfl
@[simp] theorem continueAt_xferDeadline (t : Todo) (s : State) : (continueAt t s).xferDeadline = s.xferDeadline := rfl
@[simp] theorem continueAt_retry (t : Todo) (s : State) : (continueAt t s).retry = s.retry := rfl
@[simp] theorem continueAt_rspStatus (t : Todo) (s : State) : (continueAt t s).rspStatus = s.rspStatus := rfl
@[simp] theorem continueAt_rspDetail (t : Todo) (s : State) : (continueAt t s).rspDetail = s.rspDetail := rfl
@[simp] theorem continueAt_resBaudDiv (t : Todo) (s : State) : (continueAt t s).resBaudDiv = s.resBaudDiv := rfl
@[simp] theorem continueAt_resGuardTicks (t : Todo) (s : State) : (continueAt t s).resGuardTicks = s.resGuardTicks := rfl
@[simp] theorem continueAt_raw (t : Todo) (s : State) : (continueAt t s).raw = s.raw := rfl
@[simp] theorem continueAt_rawLen (t : Todo) (s : State) : (continueAt t s).rawLen = s.rawLen := rfl
@[simp] theorem continueAt_decd (t : Todo) (s : State) : (continueAt t s).decd = s.decd := rfl
@[simp] theorem continueAt_now (t : Todo) (s : State) : (continueAt t s).now = s.now := rfl
@[simp] theorem continueAt_todo (t : Todo) (s : State) : (continueAt t s).todo = t := rfl
@[simp] theorem continueAt_char (t : Todo) (s : State) : (continueAt t s).char = s.char := rfl
@[simp] theorem continueAt_midStep (t : Todo) (s : State) : (continueAt t s).midStep = s.midStep := rfl
@[simp] theorem continueAt_history (t : Todo) (s : State) : (continueAt t s).history = s.history := rfl
@[simp] theorem continueAt_port (t : Todo) (s : State) : (continueAt t s).port = s.port := rfl
@[simp] theorem continueAt_replies (t : Todo) (s : State) : (continueAt t s).replies = s.replies := rfl
@[simp] theorem continueAt_tick (t : Todo) (s : State) : (continueAt t s).tick = s.tick := rfl

/-! ## `idleTick` -/

@[simp] theorem idleTick_sessState (s : State) : (idleTick s).sessState = s.sessState := rfl
@[simp] theorem idleTick_busy (s : State) : (idleTick s).busy = s.busy := rfl
@[simp] theorem idleTick_owner (s : State) : (idleTick s).owner = s.owner := rfl
@[simp] theorem idleTick_curOp (s : State) : (idleTick s).curOp = s.curOp := rfl
@[simp] theorem idleTick_cfg (s : State) : (idleTick s).cfg = s.cfg := rfl
@[simp] theorem idleTick_cfgMaxIterations (s : State) : (idleTick s).cfgMaxIterations = s.cfgMaxIterations := rfl
@[simp] theorem idleTick_baudDiv (s : State) : (idleTick s).baudDiv = s.baudDiv := rfl
@[simp] theorem idleTick_guardTicks (s : State) : (idleTick s).guardTicks = s.guardTicks := rfl
@[simp] theorem idleTick_pinVcc (s : State) : (idleTick s).pinVcc = s.pinVcc := rfl
@[simp] theorem idleTick_shown (s : State) : (idleTick s).shown = s.shown := rfl
@[simp] theorem idleTick_pinClk (s : State) : (idleTick s).pinClk = s.pinClk := rfl
@[simp] theorem idleTick_pinRst (s : State) : (idleTick s).pinRst = s.pinRst := rfl
@[simp] theorem idleTick_rsState (s : State) : (idleTick s).rsState = s.rsState := rfl
@[simp] theorem idleTick_rsKind (s : State) : (idleTick s).rsKind = s.rsKind := rfl
@[simp] theorem idleTick_tMark (s : State) : (idleTick s).tMark = s.tMark := rfl
@[simp] theorem idleTick_atrDeadline (s : State) : (idleTick s).atrDeadline = s.atrDeadline := rfl
@[simp] theorem idleTick_atr (s : State) : (idleTick s).atr = s.atr := rfl
@[simp] theorem idleTick_atrLen (s : State) : (idleTick s).atrLen = s.atrLen := rfl
@[simp] theorem idleTick_atrValid (s : State) : (idleTick s).atrValid = s.atrValid := rfl
@[simp] theorem idleTick_atrd (s : State) : (idleTick s).atrd = s.atrd := rfl
@[simp] theorem idleTick_xferState (s : State) : (idleTick s).xferState = s.xferState := rfl
@[simp] theorem idleTick_hdr (s : State) : (idleTick s).hdr = s.hdr := rfl
@[simp] theorem idleTick_xcase (s : State) : (idleTick s).xcase = s.xcase := rfl
@[simp] theorem idleTick_dout (s : State) : (idleTick s).dout = s.dout := rfl
@[simp] theorem idleTick_doutLen (s : State) : (idleTick s).doutLen = s.doutLen := rfl
@[simp] theorem idleTick_idx (s : State) : (idleTick s).idx = s.idx := rfl
@[simp] theorem idleTick_rsp (s : State) : (idleTick s).rsp = s.rsp := rfl
@[simp] theorem idleTick_rspLen (s : State) : (idleTick s).rspLen = s.rspLen := rfl
@[simp] theorem idleTick_sw1 (s : State) : (idleTick s).sw1 = s.sw1 := rfl
@[simp] theorem idleTick_sw2 (s : State) : (idleTick s).sw2 = s.sw2 := rfl
@[simp] theorem idleTick_xferDeadline (s : State) : (idleTick s).xferDeadline = s.xferDeadline := rfl
@[simp] theorem idleTick_retry (s : State) : (idleTick s).retry = s.retry := rfl
@[simp] theorem idleTick_rspStatus (s : State) : (idleTick s).rspStatus = s.rspStatus := rfl
@[simp] theorem idleTick_rspDetail (s : State) : (idleTick s).rspDetail = s.rspDetail := rfl
@[simp] theorem idleTick_resBaudDiv (s : State) : (idleTick s).resBaudDiv = s.resBaudDiv := rfl
@[simp] theorem idleTick_resGuardTicks (s : State) : (idleTick s).resGuardTicks = s.resGuardTicks := rfl
@[simp] theorem idleTick_raw (s : State) : (idleTick s).raw = s.raw := rfl
@[simp] theorem idleTick_rawLen (s : State) : (idleTick s).rawLen = s.rawLen := rfl
@[simp] theorem idleTick_decd (s : State) : (idleTick s).decd = s.decd := rfl
@[simp] theorem idleTick_now (s : State) : (idleTick s).now = s.now + (reply s).extra := rfl
@[simp] theorem idleTick_todo (s : State) : (idleTick s).todo = s.todo := rfl
@[simp] theorem idleTick_char (s : State) : (idleTick s).char = s.char := rfl
@[simp] theorem idleTick_midStep (s : State) : (idleTick s).midStep = false := rfl
@[simp] theorem idleTick_history (s : State) : (idleTick s).history = s.history := rfl
@[simp] theorem idleTick_port (s : State) : (idleTick s).port = s.port := rfl
@[simp] theorem idleTick_replies (s : State) : (idleTick s).replies = s.replies.tail := rfl
@[simp] theorem idleTick_tick (s : State) : (idleTick s).tick = s.tick + 1 := rfl

/-! ## `begin` -/

@[simp] theorem begin_sessState (op : Op) (s : State) : (begin op s).sessState = s.sessState := rfl
@[simp] theorem begin_busy (op : Op) (s : State) : (begin op s).busy = true := rfl
@[simp] theorem begin_owner (op : Op) (s : State) : (begin op s).owner = s.owner := rfl
@[simp] theorem begin_curOp (op : Op) (s : State) : (begin op s).curOp = op := rfl
@[simp] theorem begin_cfg (op : Op) (s : State) : (begin op s).cfg = s.cfg := rfl
@[simp] theorem begin_cfgMaxIterations (op : Op) (s : State) : (begin op s).cfgMaxIterations = s.cfgMaxIterations := rfl
@[simp] theorem begin_baudDiv (op : Op) (s : State) : (begin op s).baudDiv = s.baudDiv := rfl
@[simp] theorem begin_guardTicks (op : Op) (s : State) : (begin op s).guardTicks = s.guardTicks := rfl
@[simp] theorem begin_pinVcc (op : Op) (s : State) : (begin op s).pinVcc = s.pinVcc := rfl
@[simp] theorem begin_shown (op : Op) (s : State) : (begin op s).shown = s.shown := rfl
@[simp] theorem begin_pinClk (op : Op) (s : State) : (begin op s).pinClk = s.pinClk := rfl
@[simp] theorem begin_pinRst (op : Op) (s : State) : (begin op s).pinRst = s.pinRst := rfl
@[simp] theorem begin_rsState (op : Op) (s : State) : (begin op s).rsState = s.rsState := rfl
@[simp] theorem begin_rsKind (op : Op) (s : State) : (begin op s).rsKind = s.rsKind := rfl
@[simp] theorem begin_tMark (op : Op) (s : State) : (begin op s).tMark = s.tMark := rfl
@[simp] theorem begin_atrDeadline (op : Op) (s : State) : (begin op s).atrDeadline = s.atrDeadline := rfl
@[simp] theorem begin_atr (op : Op) (s : State) : (begin op s).atr = s.atr := rfl
@[simp] theorem begin_atrLen (op : Op) (s : State) : (begin op s).atrLen = s.atrLen := rfl
@[simp] theorem begin_atrValid (op : Op) (s : State) : (begin op s).atrValid = s.atrValid := rfl
@[simp] theorem begin_atrd (op : Op) (s : State) : (begin op s).atrd = s.atrd := rfl
@[simp] theorem begin_xferState (op : Op) (s : State) : (begin op s).xferState = s.xferState := rfl
@[simp] theorem begin_hdr (op : Op) (s : State) : (begin op s).hdr = s.hdr := rfl
@[simp] theorem begin_xcase (op : Op) (s : State) : (begin op s).xcase = s.xcase := rfl
@[simp] theorem begin_dout (op : Op) (s : State) : (begin op s).dout = s.dout := rfl
@[simp] theorem begin_doutLen (op : Op) (s : State) : (begin op s).doutLen = s.doutLen := rfl
@[simp] theorem begin_idx (op : Op) (s : State) : (begin op s).idx = s.idx := rfl
@[simp] theorem begin_rsp (op : Op) (s : State) : (begin op s).rsp = s.rsp := rfl
@[simp] theorem begin_rspLen (op : Op) (s : State) : (begin op s).rspLen = s.rspLen := rfl
@[simp] theorem begin_sw1 (op : Op) (s : State) : (begin op s).sw1 = s.sw1 := rfl
@[simp] theorem begin_sw2 (op : Op) (s : State) : (begin op s).sw2 = s.sw2 := rfl
@[simp] theorem begin_xferDeadline (op : Op) (s : State) : (begin op s).xferDeadline = s.xferDeadline := rfl
@[simp] theorem begin_retry (op : Op) (s : State) : (begin op s).retry = s.retry := rfl
@[simp] theorem begin_rspStatus (op : Op) (s : State) : (begin op s).rspStatus = s.rspStatus := rfl
@[simp] theorem begin_rspDetail (op : Op) (s : State) : (begin op s).rspDetail = s.rspDetail := rfl
@[simp] theorem begin_resBaudDiv (op : Op) (s : State) : (begin op s).resBaudDiv = s.resBaudDiv := rfl
@[simp] theorem begin_resGuardTicks (op : Op) (s : State) : (begin op s).resGuardTicks = s.resGuardTicks := rfl
@[simp] theorem begin_raw (op : Op) (s : State) : (begin op s).raw = s.raw := rfl
@[simp] theorem begin_rawLen (op : Op) (s : State) : (begin op s).rawLen = s.rawLen := rfl
@[simp] theorem begin_decd (op : Op) (s : State) : (begin op s).decd = s.decd := rfl
@[simp] theorem begin_now (op : Op) (s : State) : (begin op s).now = s.now := rfl
@[simp] theorem begin_todo (op : Op) (s : State) : (begin op s).todo = s.todo := rfl
@[simp] theorem begin_char (op : Op) (s : State) : (begin op s).char = s.char := rfl
@[simp] theorem begin_midStep (op : Op) (s : State) : (begin op s).midStep = s.midStep := rfl
@[simp] theorem begin_history (op : Op) (s : State) : (begin op s).history = [.accept op] := rfl
@[simp] theorem begin_port (op : Op) (s : State) : (begin op s).port = s.port := rfl
@[simp] theorem begin_replies (op : Op) (s : State) : (begin op s).replies = s.replies := rfl
@[simp] theorem begin_tick (op : Op) (s : State) : (begin op s).tick = s.tick := rfl

/-! ## `respond` -/

@[simp] theorem respond_sessState (st : Status) (d : Detail) (s : State) : (respond st d s).sessState = s.sessState := rfl
@[simp] theorem respond_busy (st : Status) (d : Detail) (s : State) : (respond st d s).busy = false := rfl
@[simp] theorem respond_owner (st : Status) (d : Detail) (s : State) : (respond st d s).owner = .none := rfl
@[simp] theorem respond_curOp (st : Status) (d : Detail) (s : State) : (respond st d s).curOp = .none := rfl
@[simp] theorem respond_cfg (st : Status) (d : Detail) (s : State) : (respond st d s).cfg = s.cfg := rfl
@[simp] theorem respond_cfgMaxIterations (st : Status) (d : Detail) (s : State) : (respond st d s).cfgMaxIterations = s.cfgMaxIterations := rfl
@[simp] theorem respond_baudDiv (st : Status) (d : Detail) (s : State) : (respond st d s).baudDiv = s.baudDiv := rfl
@[simp] theorem respond_guardTicks (st : Status) (d : Detail) (s : State) : (respond st d s).guardTicks = s.guardTicks := rfl
@[simp] theorem respond_pinVcc (st : Status) (d : Detail) (s : State) : (respond st d s).pinVcc = s.pinVcc := rfl
@[simp] theorem respond_shown (st : Status) (d : Detail) (s : State) : (respond st d s).shown = s.shown := rfl
@[simp] theorem respond_pinClk (st : Status) (d : Detail) (s : State) : (respond st d s).pinClk = s.pinClk := rfl
@[simp] theorem respond_pinRst (st : Status) (d : Detail) (s : State) : (respond st d s).pinRst = s.pinRst := rfl
@[simp] theorem respond_rsState (st : Status) (d : Detail) (s : State) : (respond st d s).rsState = s.rsState := rfl
@[simp] theorem respond_rsKind (st : Status) (d : Detail) (s : State) : (respond st d s).rsKind = s.rsKind := rfl
@[simp] theorem respond_tMark (st : Status) (d : Detail) (s : State) : (respond st d s).tMark = s.tMark := rfl
@[simp] theorem respond_atrDeadline (st : Status) (d : Detail) (s : State) : (respond st d s).atrDeadline = s.atrDeadline := rfl
@[simp] theorem respond_atr (st : Status) (d : Detail) (s : State) : (respond st d s).atr = s.atr := rfl
@[simp] theorem respond_atrLen (st : Status) (d : Detail) (s : State) : (respond st d s).atrLen = s.atrLen := rfl
@[simp] theorem respond_atrValid (st : Status) (d : Detail) (s : State) : (respond st d s).atrValid = s.atrValid := rfl
@[simp] theorem respond_atrd (st : Status) (d : Detail) (s : State) : (respond st d s).atrd = s.atrd := rfl
@[simp] theorem respond_xferState (st : Status) (d : Detail) (s : State) : (respond st d s).xferState = s.xferState := rfl
@[simp] theorem respond_hdr (st : Status) (d : Detail) (s : State) : (respond st d s).hdr = s.hdr := rfl
@[simp] theorem respond_xcase (st : Status) (d : Detail) (s : State) : (respond st d s).xcase = s.xcase := rfl
@[simp] theorem respond_dout (st : Status) (d : Detail) (s : State) : (respond st d s).dout = s.dout := rfl
@[simp] theorem respond_doutLen (st : Status) (d : Detail) (s : State) : (respond st d s).doutLen = s.doutLen := rfl
@[simp] theorem respond_idx (st : Status) (d : Detail) (s : State) : (respond st d s).idx = s.idx := rfl
@[simp] theorem respond_rsp (st : Status) (d : Detail) (s : State) : (respond st d s).rsp = s.rsp := rfl
@[simp] theorem respond_rspLen (st : Status) (d : Detail) (s : State) : (respond st d s).rspLen = s.rspLen := rfl
@[simp] theorem respond_sw1 (st : Status) (d : Detail) (s : State) : (respond st d s).sw1 = s.sw1 := rfl
@[simp] theorem respond_sw2 (st : Status) (d : Detail) (s : State) : (respond st d s).sw2 = s.sw2 := rfl
@[simp] theorem respond_xferDeadline (st : Status) (d : Detail) (s : State) : (respond st d s).xferDeadline = s.xferDeadline := rfl
@[simp] theorem respond_retry (st : Status) (d : Detail) (s : State) : (respond st d s).retry = s.retry := rfl
@[simp] theorem respond_rspStatus (st : Status) (d : Detail) (s : State) : (respond st d s).rspStatus = st := rfl
@[simp] theorem respond_rspDetail (st : Status) (d : Detail) (s : State) : (respond st d s).rspDetail = if st = .malformedAtr then d else .none := rfl
@[simp] theorem respond_resBaudDiv (st : Status) (d : Detail) (s : State) : (respond st d s).resBaudDiv = s.resBaudDiv := rfl
@[simp] theorem respond_resGuardTicks (st : Status) (d : Detail) (s : State) : (respond st d s).resGuardTicks = s.resGuardTicks := rfl
@[simp] theorem respond_raw (st : Status) (d : Detail) (s : State) : (respond st d s).raw = s.raw := rfl
@[simp] theorem respond_rawLen (st : Status) (d : Detail) (s : State) : (respond st d s).rawLen = s.rawLen := rfl
@[simp] theorem respond_decd (st : Status) (d : Detail) (s : State) : (respond st d s).decd = s.decd := rfl
@[simp] theorem respond_now (st : Status) (d : Detail) (s : State) : (respond st d s).now = s.now := rfl
@[simp] theorem respond_todo (st : Status) (d : Detail) (s : State) : (respond st d s).todo = .idle := rfl
@[simp] theorem respond_char (st : Status) (d : Detail) (s : State) : (respond st d s).char = .fresh := rfl
@[simp] theorem respond_midStep (st : Status) (d : Detail) (s : State) : (respond st d s).midStep = false := rfl
@[simp] theorem respond_history (st : Status) (d : Detail) (s : State) : (respond st d s).history = s.history ++ [.respond st (if st = .malformedAtr then d else .none)] := rfl
@[simp] theorem respond_port (st : Status) (d : Detail) (s : State) : (respond st d s).port = s.port := rfl
@[simp] theorem respond_replies (st : Status) (d : Detail) (s : State) : (respond st d s).replies = s.replies := rfl
@[simp] theorem respond_tick (st : Status) (d : Detail) (s : State) : (respond st d s).tick = s.tick := rfl

/-! ## `dropTransfer` -/

@[simp] theorem dropTransfer_sessState (s : State) : (dropTransfer s).sessState = s.sessState := rfl
@[simp] theorem dropTransfer_busy (s : State) : (dropTransfer s).busy = s.busy := rfl
@[simp] theorem dropTransfer_owner (s : State) : (dropTransfer s).owner = s.owner := rfl
@[simp] theorem dropTransfer_curOp (s : State) : (dropTransfer s).curOp = s.curOp := rfl
@[simp] theorem dropTransfer_cfg (s : State) : (dropTransfer s).cfg = s.cfg := rfl
@[simp] theorem dropTransfer_cfgMaxIterations (s : State) : (dropTransfer s).cfgMaxIterations = s.cfgMaxIterations := rfl
@[simp] theorem dropTransfer_baudDiv (s : State) : (dropTransfer s).baudDiv = s.baudDiv := rfl
@[simp] theorem dropTransfer_guardTicks (s : State) : (dropTransfer s).guardTicks = s.guardTicks := rfl
@[simp] theorem dropTransfer_pinVcc (s : State) : (dropTransfer s).pinVcc = s.pinVcc := rfl
@[simp] theorem dropTransfer_shown (s : State) : (dropTransfer s).shown = s.shown := rfl
@[simp] theorem dropTransfer_pinClk (s : State) : (dropTransfer s).pinClk = s.pinClk := rfl
@[simp] theorem dropTransfer_pinRst (s : State) : (dropTransfer s).pinRst = s.pinRst := rfl
@[simp] theorem dropTransfer_rsState (s : State) : (dropTransfer s).rsState = s.rsState := rfl
@[simp] theorem dropTransfer_rsKind (s : State) : (dropTransfer s).rsKind = s.rsKind := rfl
@[simp] theorem dropTransfer_tMark (s : State) : (dropTransfer s).tMark = s.tMark := rfl
@[simp] theorem dropTransfer_atrDeadline (s : State) : (dropTransfer s).atrDeadline = s.atrDeadline := rfl
@[simp] theorem dropTransfer_atr (s : State) : (dropTransfer s).atr = s.atr := rfl
@[simp] theorem dropTransfer_atrLen (s : State) : (dropTransfer s).atrLen = s.atrLen := rfl
@[simp] theorem dropTransfer_atrValid (s : State) : (dropTransfer s).atrValid = s.atrValid := rfl
@[simp] theorem dropTransfer_atrd (s : State) : (dropTransfer s).atrd = s.atrd := rfl
@[simp] theorem dropTransfer_xferState (s : State) : (dropTransfer s).xferState = .idle := rfl
@[simp] theorem dropTransfer_hdr (s : State) : (dropTransfer s).hdr = none := rfl
@[simp] theorem dropTransfer_xcase (s : State) : (dropTransfer s).xcase = none := rfl
@[simp] theorem dropTransfer_dout (s : State) : (dropTransfer s).dout = [] := rfl
@[simp] theorem dropTransfer_doutLen (s : State) : (dropTransfer s).doutLen = 0 := rfl
@[simp] theorem dropTransfer_idx (s : State) : (dropTransfer s).idx = s.idx := rfl
@[simp] theorem dropTransfer_rsp (s : State) : (dropTransfer s).rsp = [] := rfl
@[simp] theorem dropTransfer_rspLen (s : State) : (dropTransfer s).rspLen = 0 := rfl
@[simp] theorem dropTransfer_sw1 (s : State) : (dropTransfer s).sw1 = none := rfl
@[simp] theorem dropTransfer_sw2 (s : State) : (dropTransfer s).sw2 = none := rfl
@[simp] theorem dropTransfer_xferDeadline (s : State) : (dropTransfer s).xferDeadline = s.xferDeadline := rfl
@[simp] theorem dropTransfer_retry (s : State) : (dropTransfer s).retry = s.retry := rfl
@[simp] theorem dropTransfer_rspStatus (s : State) : (dropTransfer s).rspStatus = s.rspStatus := rfl
@[simp] theorem dropTransfer_rspDetail (s : State) : (dropTransfer s).rspDetail = s.rspDetail := rfl
@[simp] theorem dropTransfer_resBaudDiv (s : State) : (dropTransfer s).resBaudDiv = s.resBaudDiv := rfl
@[simp] theorem dropTransfer_resGuardTicks (s : State) : (dropTransfer s).resGuardTicks = s.resGuardTicks := rfl
@[simp] theorem dropTransfer_raw (s : State) : (dropTransfer s).raw = s.raw := rfl
@[simp] theorem dropTransfer_rawLen (s : State) : (dropTransfer s).rawLen = s.rawLen := rfl
@[simp] theorem dropTransfer_decd (s : State) : (dropTransfer s).decd = s.decd := rfl
@[simp] theorem dropTransfer_now (s : State) : (dropTransfer s).now = s.now := rfl
@[simp] theorem dropTransfer_todo (s : State) : (dropTransfer s).todo = s.todo := rfl
@[simp] theorem dropTransfer_char (s : State) : (dropTransfer s).char = s.char := rfl
@[simp] theorem dropTransfer_midStep (s : State) : (dropTransfer s).midStep = s.midStep := rfl
@[simp] theorem dropTransfer_history (s : State) : (dropTransfer s).history = s.history := rfl
@[simp] theorem dropTransfer_port (s : State) : (dropTransfer s).port = s.port := rfl
@[simp] theorem dropTransfer_replies (s : State) : (dropTransfer s).replies = s.replies := rfl
@[simp] theorem dropTransfer_tick (s : State) : (dropTransfer s).tick = s.tick := rfl

/-! ## `retireTransfer` -/

@[simp] theorem retireTransfer_sessState (s : State) : (retireTransfer s).sessState = s.sessState := rfl
@[simp] theorem retireTransfer_busy (s : State) : (retireTransfer s).busy = s.busy := rfl
@[simp] theorem retireTransfer_owner (s : State) : (retireTransfer s).owner = s.owner := rfl
@[simp] theorem retireTransfer_curOp (s : State) : (retireTransfer s).curOp = s.curOp := rfl
@[simp] theorem retireTransfer_cfg (s : State) : (retireTransfer s).cfg = s.cfg := rfl
@[simp] theorem retireTransfer_cfgMaxIterations (s : State) : (retireTransfer s).cfgMaxIterations = s.cfgMaxIterations := rfl
@[simp] theorem retireTransfer_baudDiv (s : State) : (retireTransfer s).baudDiv = s.baudDiv := rfl
@[simp] theorem retireTransfer_guardTicks (s : State) : (retireTransfer s).guardTicks = s.guardTicks := rfl
@[simp] theorem retireTransfer_pinVcc (s : State) : (retireTransfer s).pinVcc = s.pinVcc := rfl
@[simp] theorem retireTransfer_shown (s : State) : (retireTransfer s).shown = s.shown := rfl
@[simp] theorem retireTransfer_pinClk (s : State) : (retireTransfer s).pinClk = s.pinClk := rfl
@[simp] theorem retireTransfer_pinRst (s : State) : (retireTransfer s).pinRst = s.pinRst := rfl
@[simp] theorem retireTransfer_rsState (s : State) : (retireTransfer s).rsState = s.rsState := rfl
@[simp] theorem retireTransfer_rsKind (s : State) : (retireTransfer s).rsKind = s.rsKind := rfl
@[simp] theorem retireTransfer_tMark (s : State) : (retireTransfer s).tMark = s.tMark := rfl
@[simp] theorem retireTransfer_atrDeadline (s : State) : (retireTransfer s).atrDeadline = s.atrDeadline := rfl
@[simp] theorem retireTransfer_atr (s : State) : (retireTransfer s).atr = s.atr := rfl
@[simp] theorem retireTransfer_atrLen (s : State) : (retireTransfer s).atrLen = s.atrLen := rfl
@[simp] theorem retireTransfer_atrValid (s : State) : (retireTransfer s).atrValid = s.atrValid := rfl
@[simp] theorem retireTransfer_atrd (s : State) : (retireTransfer s).atrd = s.atrd := rfl
@[simp] theorem retireTransfer_xferState (s : State) : (retireTransfer s).xferState = .idle := rfl
@[simp] theorem retireTransfer_hdr (s : State) : (retireTransfer s).hdr = none := rfl
@[simp] theorem retireTransfer_xcase (s : State) : (retireTransfer s).xcase = none := rfl
@[simp] theorem retireTransfer_dout (s : State) : (retireTransfer s).dout = [] := rfl
@[simp] theorem retireTransfer_doutLen (s : State) : (retireTransfer s).doutLen = 0 := rfl
@[simp] theorem retireTransfer_idx (s : State) : (retireTransfer s).idx = s.idx := rfl
@[simp] theorem retireTransfer_rsp (s : State) : (retireTransfer s).rsp = s.rsp := rfl
@[simp] theorem retireTransfer_rspLen (s : State) : (retireTransfer s).rspLen = s.rspLen := rfl
@[simp] theorem retireTransfer_sw1 (s : State) : (retireTransfer s).sw1 = s.sw1 := rfl
@[simp] theorem retireTransfer_sw2 (s : State) : (retireTransfer s).sw2 = s.sw2 := rfl
@[simp] theorem retireTransfer_xferDeadline (s : State) : (retireTransfer s).xferDeadline = s.xferDeadline := rfl
@[simp] theorem retireTransfer_retry (s : State) : (retireTransfer s).retry = s.retry := rfl
@[simp] theorem retireTransfer_rspStatus (s : State) : (retireTransfer s).rspStatus = s.rspStatus := rfl
@[simp] theorem retireTransfer_rspDetail (s : State) : (retireTransfer s).rspDetail = s.rspDetail := rfl
@[simp] theorem retireTransfer_resBaudDiv (s : State) : (retireTransfer s).resBaudDiv = s.resBaudDiv := rfl
@[simp] theorem retireTransfer_resGuardTicks (s : State) : (retireTransfer s).resGuardTicks = s.resGuardTicks := rfl
@[simp] theorem retireTransfer_raw (s : State) : (retireTransfer s).raw = s.raw := rfl
@[simp] theorem retireTransfer_rawLen (s : State) : (retireTransfer s).rawLen = s.rawLen := rfl
@[simp] theorem retireTransfer_decd (s : State) : (retireTransfer s).decd = s.decd := rfl
@[simp] theorem retireTransfer_now (s : State) : (retireTransfer s).now = s.now := rfl
@[simp] theorem retireTransfer_todo (s : State) : (retireTransfer s).todo = s.todo := rfl
@[simp] theorem retireTransfer_char (s : State) : (retireTransfer s).char = s.char := rfl
@[simp] theorem retireTransfer_midStep (s : State) : (retireTransfer s).midStep = s.midStep := rfl
@[simp] theorem retireTransfer_history (s : State) : (retireTransfer s).history = s.history := rfl
@[simp] theorem retireTransfer_port (s : State) : (retireTransfer s).port = s.port := rfl
@[simp] theorem retireTransfer_replies (s : State) : (retireTransfer s).replies = s.replies := rfl
@[simp] theorem retireTransfer_tick (s : State) : (retireTransfer s).tick = s.tick := rfl

/-! ## `takeMove` -/

@[simp] theorem takeMove_sessState (s : State) : (takeMove s).sessState = s.sessState := rfl
@[simp] theorem takeMove_busy (s : State) : (takeMove s).busy = s.busy := rfl
@[simp] theorem takeMove_owner (s : State) : (takeMove s).owner = s.owner := rfl
@[simp] theorem takeMove_curOp (s : State) : (takeMove s).curOp = s.curOp := rfl
@[simp] theorem takeMove_cfg (s : State) : (takeMove s).cfg = s.cfg := rfl
@[simp] theorem takeMove_cfgMaxIterations (s : State) : (takeMove s).cfgMaxIterations = s.cfgMaxIterations := rfl
@[simp] theorem takeMove_baudDiv (s : State) : (takeMove s).baudDiv = s.baudDiv := rfl
@[simp] theorem takeMove_guardTicks (s : State) : (takeMove s).guardTicks = s.guardTicks := rfl
@[simp] theorem takeMove_pinVcc (s : State) : (takeMove s).pinVcc = s.pinVcc := rfl
@[simp] theorem takeMove_shown (s : State) : (takeMove s).shown = s.shown := rfl
@[simp] theorem takeMove_pinClk (s : State) : (takeMove s).pinClk = s.pinClk := rfl
@[simp] theorem takeMove_pinRst (s : State) : (takeMove s).pinRst = s.pinRst := rfl
@[simp] theorem takeMove_rsState (s : State) : (takeMove s).rsState = s.rsState := rfl
@[simp] theorem takeMove_rsKind (s : State) : (takeMove s).rsKind = s.rsKind := rfl
@[simp] theorem takeMove_tMark (s : State) : (takeMove s).tMark = s.tMark := rfl
@[simp] theorem takeMove_atrDeadline (s : State) : (takeMove s).atrDeadline = s.atrDeadline := rfl
@[simp] theorem takeMove_atr (s : State) : (takeMove s).atr = s.atr := rfl
@[simp] theorem takeMove_atrLen (s : State) : (takeMove s).atrLen = s.atrLen := rfl
@[simp] theorem takeMove_atrValid (s : State) : (takeMove s).atrValid = s.atrValid := rfl
@[simp] theorem takeMove_atrd (s : State) : (takeMove s).atrd = s.atrd := rfl
@[simp] theorem takeMove_xferState (s : State) : (takeMove s).xferState = s.xferState := rfl
@[simp] theorem takeMove_hdr (s : State) : (takeMove s).hdr = s.hdr := rfl
@[simp] theorem takeMove_xcase (s : State) : (takeMove s).xcase = s.xcase := rfl
@[simp] theorem takeMove_dout (s : State) : (takeMove s).dout = s.dout := rfl
@[simp] theorem takeMove_doutLen (s : State) : (takeMove s).doutLen = s.doutLen := rfl
@[simp] theorem takeMove_idx (s : State) : (takeMove s).idx = s.idx := rfl
@[simp] theorem takeMove_rsp (s : State) : (takeMove s).rsp = s.rsp := rfl
@[simp] theorem takeMove_rspLen (s : State) : (takeMove s).rspLen = s.rspLen := rfl
@[simp] theorem takeMove_sw1 (s : State) : (takeMove s).sw1 = s.sw1 := rfl
@[simp] theorem takeMove_sw2 (s : State) : (takeMove s).sw2 = s.sw2 := rfl
@[simp] theorem takeMove_xferDeadline (s : State) : (takeMove s).xferDeadline = s.xferDeadline := rfl
@[simp] theorem takeMove_retry (s : State) : (takeMove s).retry = s.retry := rfl
@[simp] theorem takeMove_rspStatus (s : State) : (takeMove s).rspStatus = s.rspStatus := rfl
@[simp] theorem takeMove_rspDetail (s : State) : (takeMove s).rspDetail = s.rspDetail := rfl
@[simp] theorem takeMove_resBaudDiv (s : State) : (takeMove s).resBaudDiv = s.resBaudDiv := rfl
@[simp] theorem takeMove_resGuardTicks (s : State) : (takeMove s).resGuardTicks = s.resGuardTicks := rfl
@[simp] theorem takeMove_raw (s : State) : (takeMove s).raw = s.raw := rfl
@[simp] theorem takeMove_rawLen (s : State) : (takeMove s).rawLen = s.rawLen := rfl
@[simp] theorem takeMove_decd (s : State) : (takeMove s).decd = s.decd := rfl
@[simp] theorem takeMove_now (s : State) : (takeMove s).now = s.now := rfl
@[simp] theorem takeMove_todo (s : State) : (takeMove s).todo = s.todo := rfl
@[simp] theorem takeMove_char (s : State) : (takeMove s).char = s.char := rfl
@[simp] theorem takeMove_midStep (s : State) : (takeMove s).midStep = s.midStep := rfl
@[simp] theorem takeMove_history (s : State) : (takeMove s).history = s.history := rfl
@[simp] theorem takeMove_port (s : State) : (takeMove s).port = s.port.tail := rfl
@[simp] theorem takeMove_replies (s : State) : (takeMove s).replies = s.replies := rfl
@[simp] theorem takeMove_tick (s : State) : (takeMove s).tick = s.tick := rfl

/-! ## `holdShown` -/

@[simp] theorem holdShown_sessState (s t : State) : (holdShown s t).sessState = t.sessState := rfl
@[simp] theorem holdShown_busy (s t : State) : (holdShown s t).busy = t.busy := rfl
@[simp] theorem holdShown_owner (s t : State) : (holdShown s t).owner = t.owner := rfl
@[simp] theorem holdShown_curOp (s t : State) : (holdShown s t).curOp = t.curOp := rfl
@[simp] theorem holdShown_cfg (s t : State) : (holdShown s t).cfg = t.cfg := rfl
@[simp] theorem holdShown_cfgMaxIterations (s t : State) : (holdShown s t).cfgMaxIterations = t.cfgMaxIterations := rfl
@[simp] theorem holdShown_baudDiv (s t : State) : (holdShown s t).baudDiv = t.baudDiv := rfl
@[simp] theorem holdShown_guardTicks (s t : State) : (holdShown s t).guardTicks = t.guardTicks := rfl
@[simp] theorem holdShown_pinVcc (s t : State) : (holdShown s t).pinVcc = t.pinVcc := rfl
@[simp] theorem holdShown_shown (s t : State) : (holdShown s t).shown = if s.midStep = false ∧ t.midStep = true then statusRegs s else t.shown := rfl
@[simp] theorem holdShown_pinClk (s t : State) : (holdShown s t).pinClk = t.pinClk := rfl
@[simp] theorem holdShown_pinRst (s t : State) : (holdShown s t).pinRst = t.pinRst := rfl
@[simp] theorem holdShown_rsState (s t : State) : (holdShown s t).rsState = t.rsState := rfl
@[simp] theorem holdShown_rsKind (s t : State) : (holdShown s t).rsKind = t.rsKind := rfl
@[simp] theorem holdShown_tMark (s t : State) : (holdShown s t).tMark = t.tMark := rfl
@[simp] theorem holdShown_atrDeadline (s t : State) : (holdShown s t).atrDeadline = t.atrDeadline := rfl
@[simp] theorem holdShown_atr (s t : State) : (holdShown s t).atr = t.atr := rfl
@[simp] theorem holdShown_atrLen (s t : State) : (holdShown s t).atrLen = t.atrLen := rfl
@[simp] theorem holdShown_atrValid (s t : State) : (holdShown s t).atrValid = t.atrValid := rfl
@[simp] theorem holdShown_atrd (s t : State) : (holdShown s t).atrd = t.atrd := rfl
@[simp] theorem holdShown_xferState (s t : State) : (holdShown s t).xferState = t.xferState := rfl
@[simp] theorem holdShown_hdr (s t : State) : (holdShown s t).hdr = t.hdr := rfl
@[simp] theorem holdShown_xcase (s t : State) : (holdShown s t).xcase = t.xcase := rfl
@[simp] theorem holdShown_dout (s t : State) : (holdShown s t).dout = t.dout := rfl
@[simp] theorem holdShown_doutLen (s t : State) : (holdShown s t).doutLen = t.doutLen := rfl
@[simp] theorem holdShown_idx (s t : State) : (holdShown s t).idx = t.idx := rfl
@[simp] theorem holdShown_rsp (s t : State) : (holdShown s t).rsp = t.rsp := rfl
@[simp] theorem holdShown_rspLen (s t : State) : (holdShown s t).rspLen = t.rspLen := rfl
@[simp] theorem holdShown_sw1 (s t : State) : (holdShown s t).sw1 = t.sw1 := rfl
@[simp] theorem holdShown_sw2 (s t : State) : (holdShown s t).sw2 = t.sw2 := rfl
@[simp] theorem holdShown_xferDeadline (s t : State) : (holdShown s t).xferDeadline = t.xferDeadline := rfl
@[simp] theorem holdShown_retry (s t : State) : (holdShown s t).retry = t.retry := rfl
@[simp] theorem holdShown_rspStatus (s t : State) : (holdShown s t).rspStatus = t.rspStatus := rfl
@[simp] theorem holdShown_rspDetail (s t : State) : (holdShown s t).rspDetail = t.rspDetail := rfl
@[simp] theorem holdShown_resBaudDiv (s t : State) : (holdShown s t).resBaudDiv = t.resBaudDiv := rfl
@[simp] theorem holdShown_resGuardTicks (s t : State) : (holdShown s t).resGuardTicks = t.resGuardTicks := rfl
@[simp] theorem holdShown_raw (s t : State) : (holdShown s t).raw = t.raw := rfl
@[simp] theorem holdShown_rawLen (s t : State) : (holdShown s t).rawLen = t.rawLen := rfl
@[simp] theorem holdShown_decd (s t : State) : (holdShown s t).decd = t.decd := rfl
@[simp] theorem holdShown_now (s t : State) : (holdShown s t).now = t.now := rfl
@[simp] theorem holdShown_todo (s t : State) : (holdShown s t).todo = t.todo := rfl
@[simp] theorem holdShown_char (s t : State) : (holdShown s t).char = t.char := rfl
@[simp] theorem holdShown_midStep (s t : State) : (holdShown s t).midStep = t.midStep := rfl
@[simp] theorem holdShown_history (s t : State) : (holdShown s t).history = t.history := rfl
@[simp] theorem holdShown_port (s t : State) : (holdShown s t).port = t.port := rfl
@[simp] theorem holdShown_replies (s t : State) : (holdShown s t).replies = t.replies := rfl
@[simp] theorem holdShown_tick (s t : State) : (holdShown s t).tick = t.tick := rfl

/-- A line after which no step is under way is not changed. -/
theorem holdShown_of_done (s : State) {t : State} (h : t.midStep = false) : holdShown s t = t := by
  unfold holdShown
  rw [if_neg (by simp [h])]

end Sys2Proof.Machine
end

