-- ==== Sys2Proof/Laws/Ops.lean ====
section
/-! SUPPORT. For each shared operation, once, all it can do: what it answers with, where it goes on, how long it
takes. -/

namespace Sys2Proof.Machine

/-! ## The time a primitive takes (20_memory.md R88, R89) -/

theorem chSend_now (b : Byte) (s : State) : (chSend b s).now = s.now + (1 + (reply s).extra) := rfl

theorem chRecv_now (n : Nat) (s : State) :
    (chRecv n s).now = s.now + (recvTime n (reply s).rx + (reply s).extra) := rfl

theorem waitUntil_now_ge (n : Nat) (s : State) : n ≤ (waitUntil n s).now ∧ s.now ≤ (waitUntil n s).now := by
  simp only [waitUntil, perform_now, waitTime]
  split <;> omega

theorem readBaudDiv_of_some {s : State} {b : BitVec 16} (h : s.baudDiv = some b) : readBaudDiv s = b := by
  simp [readBaudDiv, h]

theorem readHdr_of_some {s : State} {h : Header} (e : s.hdr = some h) : readHdr s = h := by
  simp [readHdr, e]

theorem readXcase_of_some {s : State} {c : XCase} (e : s.xcase = some c) : readXcase s = c := by
  simp [readXcase, e]

/-- The decoder of `DECODE_ATR` reads the argument back from RAW (R74). -/
theorem rawBytes_loadRaw (bs : List Byte) (s : State) : rawBytes bs.length (loadRaw bs s) = bs := by
  refine List.ext_getElem (by simp [rawBytes]) fun i _ h => ?_
  simp [rawBytes, loadRaw, memRead_memOfBytes, h]

/-! ## The sequencer -/

/-- A reset command changes nothing or is accepted, a transfer in flight dropped first. -/
theorem resetCommand_cases (k : ResetKind) (s : State) :
    (accepts (resetOp k) s = false ∧ resetCommand k s = s) ∨
    (accepts (resetOp k) s = true ∧ transferInFlight s = true ∧
      resetCommand k s = acceptReset k (dropTransfer s)) ∨
    (accepts (resetOp k) s = true ∧ transferInFlight s = false ∧ resetCommand k s = acceptReset k s) := by
  unfold resetCommand
  cases accepts (resetOp k) s <;> cases transferInFlight s <;> simp

/-- The progress test goes on somewhere, with the view written when it is there. -/
theorem atrProgress_cases (s : State) :
    (∃ v, decodeAtr (atrBytes s.atrLen.toNat s) = .ok v ∧
      atrProgress s = goto (.micro .statusOk) { s with atrd := some v, atrValid := true, sessState := .active }) ∨
    (∃ r, decodeAtr (atrBytes s.atrLen.toNat s) = .error (.needs r) ∧ s.atrLen.toNat < Config.atrMax ∧
      atrProgress s = awaitAtrChar s) ∨
    (∃ d, atrProgress s = goto (.micro (.statusMalformedAtr d)) s) ∨
    (decodeAtr (atrBytes s.atrLen.toNat s) = .error .checksum ∧
      atrProgress s = goto (.micro .statusChecksumError) s) := by
  unfold atrProgress
  split
  · exact .inl ⟨_, ‹_›, rfl⟩
  · split
    · exact .inr (.inl ⟨_, ‹_›, ‹_›, rfl⟩)
    · exact .inr (.inr (.inl ⟨_, rfl⟩))
  · exact .inr (.inr (.inl ⟨_, rfl⟩))
  · exact .inr (.inr (.inr ⟨‹_›, rfl⟩))
  · exact .inr (.inr (.inl ⟨_, rfl⟩))

/-- A capture that goes on has room, appends, and makes the progress test. -/
theorem captureAtr_eq_next {b : Byte} {s t : State} (h : captureAtr b s = .next t) :
    s.atrLen.toNat < Config.atrMax ∧
    t = atrProgress { s with atr := memWrite s.atr s.atrLen.toNat b, atrLen := s.atrLen + 1,
                             rsState := .atrCaptured } := by
  unfold captureAtr at h
  split at h
  · rename_i m hm
    obtain ⟨hl, rfl⟩ := memStore_eq_some hm
    exact ⟨hl, (Host.Outcome.next.inj h).symm⟩
  · cases h

/-- What a received character becomes: the line without a format, or the row of a format. -/
theorem atrRow_cases (b : Byte) (s : State) :
    atrRow b s = .capture b ∨
    ∃ role i, nextRole (atrBytes s.atrLen.toNat s) = some role ∧ decodeAtrByte role b = .ok i ∧
      atrRow b s = .micro i := by
  unfold atrRow
  split
  · split
    · exact .inr ⟨_, _, ‹_›, ‹_›, rfl⟩
    · exact .inl rfl
  · exact .inl rfl

/-- A first character too late is no character (70_reset_and_hazards.md R340). -/
theorem atrTimeout_of_firstTooLate {s : State} (h : firstTooLate s = true) :
    atrTimeout s = goto (.micro .statusNoCardResponse) { s with rsState := .atrTimeout } := by
  simp only [firstTooLate, Bool.and_eq_true, beq_iff_eq] at h
  simp only [atrTimeout, h.1]

/-- What a character leads to: it is captured, or was too late. -/
theorem atrByte_cases (b : Byte) (s : State) :
    (firstTooLate s = false ∧ atrByte b s = goto (atrRow b s) s) ∨
    (firstTooLate s = true ∧
      atrByte b s = goto (.micro .statusNoCardResponse) { s with rsState := .atrTimeout }) := by
  unfold atrByte
  split
  · exact .inr ⟨‹_›, atrTimeout_of_firstTooLate ‹_›⟩
  · exact .inl ⟨by simpa using ‹¬firstTooLate s = true›, rfl⟩

/-! ## The Transfer Engine -/

/-- A data byte that is taken is stored below P3 at `idx`, or is a status byte. -/
theorem dataInByte_eq_next {b : Byte} {s t : State} (h : dataInByte b s = .next t) :
    (s.idx.toNat < (readHdr s).p3.toNat ∧ s.idx.toNat < Config.dataMax ∧
      t = dataInLoop { s with rsp := memWrite s.rsp s.idx.toNat b, idx := s.idx + 1 }) ∨
    ((readHdr s).p3.toNat ≤ s.idx.toNat ∧ t = statusByte b s) := by
  unfold dataInByte at h
  split at h
  · rename_i hi
    split at h
    · rename_i m hm
      obtain ⟨hl, rfl⟩ := memStore_eq_some hm
      exact .inl ⟨hi, hl, (Host.Outcome.next.inj h).symm⟩
    · cases h
  · exact .inr ⟨by omega, (Host.Outcome.next.inj h).symm⟩

/-- P3 is a byte, so a data byte always has its place in RSP (20_memory.md R75). -/
theorem dataInByte_ne_fault (b : Byte) (s : State) : ∃ t, dataInByte b s = .next t := by
  have hp := (readHdr s).p3.isLt
  unfold dataInByte
  split
  · simp only [memStore, Config.dataMax]
    rw [if_pos (by omega)]
    exact ⟨_, rfl⟩
  · exact ⟨_, rfl⟩

/-- A status byte is SW1, with SW2 awaited, or SW2. -/
theorem statusByte_cases (b : Byte) (s : State) :
    (s.sw1 = none ∧ statusByte b s = awaitCardByte { s with sw1 := some b }) ∨
    (s.sw1.isSome = true ∧ statusByte b s = statusComplete b s) := by
  unfold statusByte
  split
  · exact .inl ⟨‹_›, rfl⟩
  · rename_i h; exact .inr ⟨by simp [h], rfl⟩

/-- A character in `AwaitProcedureByte` is classified, or is SW2. -/
theorem procedureByte_cases (b : Byte) (s : State) :
    (s.sw1 = none ∧ procedureByte b s = goto (.micro (classifyProc (readHdr s).ins b)) s) ∨
    (s.sw1.isSome = true ∧ procedureByte b s = statusComplete b s) := by
  unfold procedureByte
  split
  · exact .inl ⟨‹_›, rfl⟩
  · rename_i h; exact .inr ⟨by simp [h], rfl⟩

/-- A reaction to ACK: a violation, or the head of a data phase. -/
theorem ackReaction_cases (s : State) :
    (readXcase s = .case1 ∧ ackReaction s = goto (.micro .statusProtocolViolation) s) ∨
    (readXcase s = .case2 ∧ ackReaction s = dataOutLoop { s with idx := 0, xferState := .dataOut }) ∨
    (readXcase s = .case3 ∧ ackReaction s = dataInLoop { s with idx := 0, xferState := .dataIn }) := by
  unfold ackReaction
  cases readXcase s <;> simp

/-! ## The step -/

/-- What the command decoder answers is a command. -/
theorem isCommand_of_decodeCommand {bs rest : List Byte} {i : Instr} (h : decodeCommand bs = .ok (i, rest)) :
    i.isCommand = true := by
  unfold decodeCommand at h
  split at h
  · cases h
  · simp only at h
    split_ifs at h <;>
      (try unfold decodeTransferD at h) <;> (try unfold decodeInit at h) <;> (try unfold decodeDerive at h) <;>
      (try unfold decodeTransfer at h) <;> (try unfold decodeRaw at h) <;>
      (try (split at h <;> (try split_ifs at h))) <;>
      (try cases h) <;> rfl

/-- A presented command is run, or is no command and changes nothing. -/
theorem runCommand_cases (bs : List Byte) (s : State) :
    (∃ i, decodeCommand bs = .ok (i, []) ∧ runCommand bs s = exec i s) ∨ runCommand bs s = .next s := by
  unfold runCommand
  split
  · exact .inl ⟨_, ‹_›, rfl⟩
  · exact .inr rfl
  · exact .inr rfl

/-- A line of the command in flight that goes on goes on to the same state but for what the view shows meanwhile. -/
theorem holdShownResult_eq_next {s t : State} {r : Result} (h : holdShownResult s r = .next t) :
    ∃ u, r = .next u ∧ t = holdShown s u := by
  cases r with
  | next u => exact ⟨u, rfl, (Host.Outcome.next.inj h).symm⟩
  | fault r => cases h
  | refused r => cases h

/-- A step is a hardware reset, a presented command, or the next line of the command in flight. -/
theorem step_cases (s : State) :
    (fetch s = .hardwareReset ∧ step s = .next (hardwareReset (takeMove s))) ∨
    (∃ bs, fetch s = .command bs ∧ step s = runCommand bs (takeMove s)) ∨
    (dueMove s = none ∧ fetch s = .flight s.todo ∧ step s = holdShownResult s (runFlight s.todo s)) := by
  unfold step fetch
  cases hd : dueMove s with
  | none => exact .inr (.inr ⟨rfl, rfl, rfl⟩)
  | some m =>
    cases m with
    | hardwareReset => exact .inl ⟨rfl, rfl⟩
    | command bs => exact .inr (.inl ⟨bs, rfl, rfl⟩)

end Sys2Proof.Machine
end

