-- ==== Sys2Proof/Laws/Frame.lean ====
section
/-! SUPPORT. What no meaning touches: the host's moves still to come, and the held registers of the status view. A step
alone takes a move (`takeMove`) or holds the view (`holdShown`). -/

namespace Sys2Proof.Machine

/-- The host's moves and the held view are the same. -/
def SameHost (s t : State) : Prop := t.port = s.port ∧ t.shown = s.shown

/-- So they are in the next state of a result, if it has one. -/
def ResultSameHost (s : State) : Result → Prop
  | .next t => SameHost s t
  | .fault _ => True
  | .refused _ => True

theorem SameHost.trans {a b c : State} (h : SameHost a b) (g : SameHost b c) : SameHost a c :=
  ⟨g.1.trans h.1, g.2.trans h.2⟩

theorem atrProgress_sameHost (s : State) : SameHost s (atrProgress s) := by
  unfold atrProgress; split <;> (try split) <;> exact ⟨rfl, rfl⟩

theorem captureAtr_sameHost (b : Byte) (s : State) : ResultSameHost s (captureAtr b s) := by
  unfold captureAtr; split
  · exact SameHost.trans (b := { s with atr := _, atrLen := _, rsState := _ }) ⟨rfl, rfl⟩
      (atrProgress_sameHost _)
  · trivial

theorem atrTimeout_sameHost (s : State) : SameHost s (atrTimeout s) := by
  unfold atrTimeout; split <;> exact ⟨rfl, rfl⟩

theorem rxTimeout_sameHost (s : State) : SameHost s (rxTimeout s) := by
  unfold rxTimeout; split
  · exact atrTimeout_sameHost _
  all_goals exact ⟨rfl, rfl⟩

theorem tryRecv_sameHost (w : Nat) (d : Option Nat) (s : State) : SameHost s (tryRecv w d s) := by
  unfold tryRecv; split
  · exact rxTimeout_sameHost _
  · exact ⟨rfl, rfl⟩

theorem atrByte_sameHost (b : Byte) (s : State) : SameHost s (atrByte b s) := by
  rcases atrByte_cases b s with ⟨-, h⟩ | ⟨-, h⟩ <;> rw [h] <;> exact ⟨rfl, rfl⟩

theorem rxExhausted_sameHost (s : State) : SameHost s (rxExhausted s) := by
  unfold rxExhausted; split <;> exact ⟨rfl, rfl⟩

theorem statusByte_sameHost (b : Byte) (s : State) : SameHost s (statusByte b s) := by
  unfold statusByte; split <;> exact ⟨rfl, rfl⟩

theorem procedureByte_sameHost (b : Byte) (s : State) : SameHost s (procedureByte b s) := by
  unfold procedureByte; split <;> exact ⟨rfl, rfl⟩

theorem dataOutLoop_sameHost (s : State) : SameHost s (dataOutLoop s) := by
  unfold dataOutLoop; split <;> exact ⟨rfl, rfl⟩

theorem dataInLoop_sameHost (s : State) : SameHost s (dataInLoop s) := by
  unfold dataInLoop; split <;> exact ⟨rfl, rfl⟩

theorem dataInByte_sameHost (b : Byte) (s : State) : ResultSameHost s (dataInByte b s) := by
  unfold dataInByte; split
  · split
    · exact SameHost.trans (b := { s with rsp := _, idx := _ }) ⟨rfl, rfl⟩ (dataInLoop_sameHost _)
    · trivial
  · exact statusByte_sameHost _ _

theorem xferByte_sameHost (b : Byte) (s : State) : ResultSameHost s (xferByte b s) := by
  unfold xferByte; split
  · exact procedureByte_sameHost _ _
  · exact statusByte_sameHost _ _
  · exact dataInByte_sameHost _ _
  all_goals exact ⟨rfl, rfl⟩

theorem rxByte_sameHost (b : Byte) (s : State) : ResultSameHost s (rxByte b s) := by
  unfold rxByte; split
  · exact atrByte_sameHost _ _
  · exact xferByte_sameHost _ _
  · exact ⟨rfl, rfl⟩

theorem sentByte_sameHost (s : State) : SameHost s (sentByte s) := by
  unfold sentByte; split
  · exact ⟨rfl, rfl⟩
  · exact SameHost.trans (b := { s with idx := _ }) ⟨rfl, rfl⟩ (dataOutLoop_sameHost _)
  all_goals exact ⟨rfl, rfl⟩

theorem ackReaction_sameHost (s : State) : SameHost s (ackReaction s) := by
  unfold ackReaction; split
  · exact ⟨rfl, rfl⟩
  · exact SameHost.trans (b := { s with idx := _, xferState := _ }) ⟨rfl, rfl⟩ (dataOutLoop_sameHost _)
  · exact SameHost.trans (b := { s with idx := _, xferState := _ }) ⟨rfl, rfl⟩ (dataInLoop_sameHost _)

theorem failAtr_sameHost (s : State) : SameHost s (failAtr s) := by
  unfold failAtr; split <;> exact ⟨rfl, rfl⟩

theorem trySend_sameHost (b : Byte) (s : State) : SameHost s (trySend b s) := ⟨rfl, rfl⟩

theorem execTxChar_sameHost (b : Byte) (s : State) : ResultSameHost s (execTxChar b s) := by
  unfold execTxChar; split
  · exact sentByte_sameHost _
  · split
    · exact ⟨rfl, rfl⟩
    · exact SameHost.trans (b := { s with retry := _ }) ⟨rfl, rfl⟩ (trySend_sameHost _ _)
  · exact SameHost.trans (b := { s with retry := _ }) ⟨rfl, rfl⟩ (trySend_sameHost _ _)
  · exact SameHost.trans (b := { s with retry := _ }) ⟨rfl, rfl⟩ (trySend_sameHost _ _)
  · exact SameHost.trans (b := { s with retry := _ }) ⟨rfl, rfl⟩ (trySend_sameHost _ _)

theorem nackAndRetry_sameHost (w : Nat) (d : Option Nat) (s : State) : SameHost s (nackAndRetry w d s) := ⟨rfl, rfl⟩

theorem execRxChar_sameHost (w : Nat) (d : Option Nat) (s : State) : ResultSameHost s (execRxChar w d s) := by
  unfold execRxChar; split
  · exact rxByte_sameHost _ _
  · exact rxTimeout_sameHost _
  · split
    · exact rxByte_sameHost _ _
    · split
      · exact rxExhausted_sameHost _
      · exact nackAndRetry_sameHost _ _ _
  · exact tryRecv_sameHost _ _ _
  · exact SameHost.trans (b := { s with retry := 0 }) ⟨rfl, rfl⟩ (tryRecv_sameHost _ _ _)
  · exact SameHost.trans (b := { s with retry := 0 }) ⟨rfl, rfl⟩ (tryRecv_sameHost _ _ _)

/-- No meaning takes a move of the host's or holds the view. -/
theorem exec_sameHost (i : Instr) (s : State) : ResultSameHost s (exec i s) := by
  cases i <;> simp only [exec]
  case init => unfold execInit runInit; split <;> (try split) <;> (try split) <;> exact ⟨rfl, rfl⟩
  case deriveTiming => unfold execDeriveTiming runDeriveTiming; split <;> (try split) <;> exact ⟨rfl, rfl⟩
  case coldReset => unfold execColdReset resetCommand; show SameHost _ _; split <;> (try split) <;> exact ⟨rfl, rfl⟩
  case warmReset => unfold execWarmReset resetCommand; show SameHost _ _; split <;> (try split) <;> exact ⟨rfl, rfl⟩
  case transfer => unfold execTransfer; split <;> exact ⟨rfl, rfl⟩
  case transferD => unfold execTransferD; split <;> exact ⟨rfl, rfl⟩
  case decodeAtr bs =>
    unfold execDecodeAtr; split
    · refine SameHost.trans (b := loadRaw bs (begin .decodeAtr s)) ⟨rfl, rfl⟩ ?_
      generalize loadRaw bs (begin .decodeAtr s) = u
      unfold runDecodeAtr; split
      · exact ⟨rfl, rfl⟩
      all_goals exact SameHost.trans (failAtr_sameHost _) ⟨rfl, rfl⟩
    · exact ⟨rfl, rfl⟩
  case tpduHdr => unfold execTpduHdr; split <;> exact ⟨rfl, rfl⟩
  case txChar => exact execTxChar_sameHost _ _
  case rxChar w d => exact execRxChar_sameHost _ _ _
  case procAck => exact ackReaction_sameHost _
  case procAckInv => exact ackReaction_sameHost _
  case atrTsDirect => exact captureAtr_sameHost _ _
  case atrTsInverse => exact captureAtr_sameHost _ _
  case atrT0 => exact captureAtr_sameHost _ _
  case atrTd => exact captureAtr_sameHost _ _
  case atrTck => exact captureAtr_sameHost _ _
  case statusOk => unfold execStatusOk retireCommand; show SameHost _ _; split <;> exact ⟨rfl, rfl⟩
  case statusMalformedAtr => exact SameHost.trans (failAtr_sameHost _) ⟨rfl, rfl⟩
  case statusChecksumError => exact SameHost.trans (failAtr_sameHost _) ⟨rfl, rfl⟩
  all_goals exact ⟨rfl, rfl⟩

/-- No line of the command in flight does. -/
theorem runFlight_sameHost (t : Todo) (s : State) : ResultSameHost s (runFlight t s) := by
  unfold runFlight; split
  · exact ⟨rfl, rfl⟩
  · unfold runContact; show SameHost _ _; split <;> exact ⟨rfl, rfl⟩
  · exact ⟨rfl, rfl⟩
  · exact captureAtr_sameHost _ _
  · exact exec_sameHost _ _

/-- A line of the command in flight that goes on leaves the host's moves. -/
theorem runFlight_port {s u : State} {t : Todo} (h : runFlight t s = .next u) : u.port = s.port := by
  have := runFlight_sameHost t s
  rw [h] at this
  exact this.1

/-- A line of the command in flight that goes on leaves the held view to the step. -/
theorem runFlight_shown {s u : State} {t : Todo} (h : runFlight t s = .next u) : u.shown = s.shown := by
  have := runFlight_sameHost t s
  rw [h] at this
  exact this.2

end Sys2Proof.Machine
end

