-- ==== Sys2Proof/Laws/PerInstr.lean ====
section
/-! SUPPORT. Laws stated for every instruction, one lemma a constructor. -/

namespace Sys2Proof.Laws.EncodeLength

open Sys2Proof

/-- The bytes an encoding takes: the command byte and its argument block (30_encoding.md R102, R103, R128), five
header bytes (R100), one byte for the other line formats and the status; a micro-operation has none. -/
def byteCount : Instr → Nat
  | .init _ => 13
  | .deriveTiming _ => 9
  | .coldReset => 1
  | .warmReset => 1
  | .transfer _ _ _ _ _ => 6
  | .transferD _ _ _ _ p3 _ => 7 + p3.toNat
  | .decodeAtr raw => 2 + raw.length
  | .reservedOp0 _ => 1
  | .reservedOp7 _ => 1
  | .tpduHdr _ _ _ _ _ => 5
  | .procNull => 1
  | .procAck _ => 1
  | .procAckInv _ => 1
  | .procSw1 _ => 1
  | .atrTsDirect => 1
  | .atrTsInverse => 1
  | .atrT0 _ _ => 1
  | .atrTd _ _ => 1
  | .atrTck _ => 1
  | .txChar _ => 0
  | .rxChar _ _ => 0
  | .statusOk => 1
  | .statusConfigError => 1
  | .statusNoCardResponse => 1
  | .statusMalformedAtr _ => 1
  | .statusChecksumError => 1
  | .statusParityExhausted => 1
  | .statusCardTimeout => 1
  | .statusProtocolViolation => 1

/-- A well-formed instruction is encoded in as many bytes as its format has. -/
def Statement (i : Instr) : Prop := i.wf = true → (encode i).length = byteCount i

theorem init (c : CfgArg) : Statement (.init c) := fun _ => rfl

theorem deriveTiming (d : DtArg) : Statement (.deriveTiming d) := fun _ => rfl

theorem coldReset : Statement (.coldReset) := fun _ => rfl

theorem warmReset : Statement (.warmReset) := fun _ => rfl

theorem transfer (cla : Byte) (ins : Byte) (p1 : Byte) (p2 : Byte) (p3 : Byte) :
    Statement (.transfer cla ins p1 p2 p3) := fun _ => rfl

theorem transferD (cla : Byte) (ins : Byte) (p1 : Byte) (p2 : Byte) (p3 : Byte) (data : List Byte) :
    Statement (.transferD cla ins p1 p2 p3 data) := by
  intro h
  have h' : data.length = p3.toNat := by simpa [Instr.wf] using h
  simp [encode, byteCount, h']; omega

theorem decodeAtr (raw : List Byte) : Statement (.decodeAtr raw) := by
  intro _
  simp [encode, byteCount]; omega

theorem reservedOp0 (rest : BitVec 5) : Statement (.reservedOp0 rest) := fun _ => rfl

theorem reservedOp7 (rest : BitVec 5) : Statement (.reservedOp7 rest) := fun _ => rfl

theorem tpduHdr (cla : Byte) (ins : Byte) (p1 : Byte) (p2 : Byte) (p3 : Byte) :
    Statement (.tpduHdr cla ins p1 p2 p3) := fun _ => rfl

theorem procNull : Statement (.procNull) := fun _ => rfl

theorem procAck (pb : Byte) : Statement (.procAck pb) := fun _ => rfl

theorem procAckInv (pb : Byte) : Statement (.procAckInv pb) := fun _ => rfl

theorem procSw1 (sw1 : Byte) : Statement (.procSw1 sw1) := fun _ => rfl

theorem atrTsDirect : Statement (.atrTsDirect) := fun _ => rfl

theorem atrTsInverse : Statement (.atrTsInverse) := fun _ => rfl

theorem atrT0 (y1 : BitVec 4) (k : BitVec 4) : Statement (.atrT0 y1 k) := fun _ => rfl

theorem atrTd (y : BitVec 4) (t : BitVec 4) : Statement (.atrTd y t) := fun _ => rfl

theorem atrTck (tck : Byte) : Statement (.atrTck tck) := fun _ => rfl

theorem txChar (b : Byte) : Statement (.txChar b) := fun _ => rfl

theorem rxChar (wait : Nat) (dl : Option Nat) : Statement (.rxChar wait dl) := fun _ => rfl

theorem statusOk : Statement (.statusOk) := fun _ => rfl

theorem statusConfigError : Statement (.statusConfigError) := fun _ => rfl

theorem statusNoCardResponse : Statement (.statusNoCardResponse) := fun _ => rfl

theorem statusMalformedAtr (detail : Detail) : Statement (.statusMalformedAtr detail) := fun _ => rfl

theorem statusChecksumError : Statement (.statusChecksumError) := fun _ => rfl

theorem statusParityExhausted : Statement (.statusParityExhausted) := fun _ => rfl

theorem statusCardTimeout : Statement (.statusCardTimeout) := fun _ => rfl

theorem statusProtocolViolation : Statement (.statusProtocolViolation) := fun _ => rfl

end Sys2Proof.Laws.EncodeLength
end

