-- ==== Sys2Proof/Laws/Safe.lean ====
section
/-! SUPPORT. A safe state taken apart by what is in flight: nothing, a card reset, a transfer; and put together
again. A proof about steps from safe states needs `State.safe` in this form only. -/

namespace Sys2Proof.Machine

/-- What a safe state says with a card reset in flight. -/
structure InReset (s : State) : Prop where
  owner : s.owner = .rs
  busy : s.busy = true
  op : s.curOp = resetOp s.rsKind
  sess : s.sessState = .ready ∨ s.sessState = .active
  xfer : s.xferState = .idle
  hdr : s.hdr = none
  xcase : s.xcase = none
  doutLen : s.doutLen = 0
  valid : s.atrValid = (s.sessState == .active)
  view : s.atrd.isSome = s.atrValid
  cfg : s.cfg.isSome = true
  baud : s.baudDiv.isSome = true
  guard : s.guardTicks.isSome = true
  baudPos : s.baudDiv ≠ some 0
  pins : s.sessState = .active → pinsAre true true true s = true
  atr : filledBelow s.atr s.atrLen.toNat = true
  dout : filledBelow s.dout 0 = true
  rsp : filledBelow s.rsp s.rspLen.toNat = true
  raw : filledBelow s.raw s.rawLen.toNat = true
  atrRoom : s.atrLen.toNat ≤ Config.atrMax
  rawRoom : s.rawLen.toNat ≤ Config.atrMax

theorem inReset_of_safe {s : State} (h : s.safe = true) (ho : s.owner = .rs) : InReset s := by
  simp only [State.safe, sessionOk, commandOk, contactsOk, transferOk, buffersOk, rspFill,
    Bool.and_eq_true] at h
  obtain ⟨⟨⟨⟨⟨hs, hc⟩, hp⟩, -⟩, ht⟩, hb⟩ := h
  have hop : s.curOp = .coldReset ∨ s.curOp = .warmReset := by
    cases hh : s.curOp <;> simp_all [ownerOf]
  rcases hop with hop | hop <;>
    simp [hop, ho, ownerOf, lastsOn, bne, beq_eq_decide] at hc hs hp <;>
    simp [hc, beq_eq_decide] at ht hb <;>
    constructor <;> (try simp_all [resetOp, beq_eq_decide]) <;>
    (rcases hc.2 with ⟨h | h, -⟩ <;> simp_all )

theorem InReset.safe {s : State} (f : InReset s) (ht : todoFits s = true) : s.safe = true := by
  obtain ⟨h1, h2, h3, h4, h5, h6, h7, h8, h9, h10, h11, h12, h13, h14, h15, h16, h17, h18, h19, h20, h21⟩ := f
  simp only [State.safe, sessionOk, commandOk, contactsOk, transferOk, buffersOk, rspFill, Bool.and_eq_true]
  rcases h4 with h4 | h4 <;> cases hk : s.rsKind <;>
    simp_all [resetOp, ownerOf, lastsOn, bne, beq_eq_decide]

/-- What a safe state says with a transfer in flight. -/
structure InTransfer (h : Header) (c : XCase) (s : State) : Prop where
  owner : s.owner = .xfer
  busy : s.busy = true
  op : s.curOp = .transfer
  sess : s.sessState = .active
  hdr : s.hdr = some h
  xcase : s.xcase = some c
  deadline : s.xferDeadline.isSome = true
  fits : transferFits h c s = true
  valid : s.atrValid = true
  view : s.atrd.isSome = true
  cfg : s.cfg.isSome = true
  baud : s.baudDiv.isSome = true
  guard : s.guardTicks.isSome = true
  baudPos : s.baudDiv ≠ some 0
  pins : pinsAre true true true s = true
  atr : filledBelow s.atr s.atrLen.toNat = true
  dout : filledBelow s.dout s.doutLen.toNat = true
  rsp : filledBelow s.rsp (rspFill s) = true
  raw : filledBelow s.raw s.rawLen.toNat = true
  atrRoom : s.atrLen.toNat ≤ Config.atrMax
  rawRoom : s.rawLen.toNat ≤ Config.atrMax

theorem inTransfer_of_safe {s : State} (h : s.safe = true) (ho : s.owner = .xfer) :
    ∃ hd c, InTransfer hd c s := by
  simp only [State.safe, sessionOk, commandOk, contactsOk, transferOk, buffersOk, Bool.and_eq_true] at h
  obtain ⟨⟨⟨⟨⟨hs, hc⟩, hp⟩, -⟩, ht⟩, hb⟩ := h
  have hop : s.curOp = .transfer := by
    cases hh : s.curOp <;> simp_all [ownerOf]
  simp [hop, ho, ownerOf, lastsOn, bne, beq_eq_decide] at hc hs hp
  obtain ⟨hd, hhd⟩ := Option.isSome_iff_exists.mp hc.1.1.2
  obtain ⟨c, hhc⟩ := Option.isSome_iff_exists.mp hc.1.2
  refine ⟨hd, c, ?_⟩
  simp [hhd, hhc] at ht
  constructor <;> simp_all

theorem InTransfer.ne_idle {hd : Header} {c : XCase} {s : State} (f : InTransfer hd c s) :
    s.xferState ≠ .idle := by
  intro h
  simpa [transferFits, h] using f.fits

theorem InTransfer.safe {hd : Header} {c : XCase} {s : State} (f : InTransfer hd c s) (ht : todoFits s = true) :
    s.safe = true := by
  have hn := f.ne_idle
  obtain ⟨h1, h2, h3, h4, h5, h6, h7, h8, h9, h10, h11, h12, h13, h14, h15, h16, h17, h18, h19, h20, h21⟩ := f
  simp only [State.safe, sessionOk, commandOk, contactsOk, transferOk, buffersOk, Bool.and_eq_true]
  simp_all [ownerOf, lastsOn, bne, beq_eq_decide]

/-- The Transfer Engine is at rest but in a transfer (R34). -/
theorem owner_xfer_of_safe {s : State} (h : s.safe = true) (hn : s.xferState ≠ .idle) : s.owner = .xfer := by
  simp only [State.safe, commandOk, Bool.and_eq_true] at h
  obtain ⟨⟨⟨⟨⟨-, hc⟩, -⟩, -⟩, -⟩, -⟩ := h
  cases hh : s.curOp <;> simp_all [ownerOf, bne, beq_eq_decide]

/-- What a safe state says with nothing in flight. -/
structure AtRest (s : State) : Prop where
  owner : s.owner = .none
  busy : s.busy = false
  op : s.curOp = .none
  xfer : s.xferState = .idle
  hdr : s.hdr = none
  xcase : s.xcase = none
  doutLen : s.doutLen = 0
  valid : s.atrValid = (s.sessState == .active)
  view : s.atrd.isSome = s.atrValid
  cfg : s.cfg.isSome = (s.sessState != .none)
  baud : s.baudDiv.isSome = s.cfg.isSome
  guard : s.guardTicks.isSome = s.cfg.isSome
  baudPos : s.baudDiv ≠ some 0
  pins : s.sessState = .active ∨ s.sessState = .failed → pinsAre true true true s = true
  atr : filledBelow s.atr s.atrLen.toNat = true
  dout : filledBelow s.dout 0 = true
  rsp : filledBelow s.rsp s.rspLen.toNat = true
  raw : filledBelow s.raw s.rawLen.toNat = true
  atrRoom : s.atrLen.toNat ≤ Config.atrMax
  rawRoom : s.rawLen.toNat ≤ Config.atrMax

theorem atRest_of_safe {s : State} (h : s.safe = true) (hb : s.busy = false) : AtRest s := by
  simp only [State.safe, sessionOk, commandOk, contactsOk, transferOk, buffersOk, rspFill,
    Bool.and_eq_true] at h
  obtain ⟨⟨⟨⟨⟨hs, hc⟩, hp⟩, -⟩, ht⟩, hbuf⟩ := h
  have hop : s.curOp = .none := by
    cases hh : s.curOp <;> simp_all [bne, beq_eq_decide]
  simp [hop, hb, ownerOf, lastsOn, bne, beq_eq_decide] at hc hs hp
  simp [hc, beq_eq_decide] at ht hbuf
  constructor <;> (try simp_all [bne, beq_eq_decide])
  intro h
  rcases h with h | h <;> simpa [h] using hp

theorem AtRest.safe {s : State} (f : AtRest s) (ht : todoFits s = true) : s.safe = true := by
  obtain ⟨h1, h2, h3, h4, h5, h6, h7, h8, h9, h10, h11, h12, h13, h14, h15, h16, h17, h18, h19, h20⟩ := f
  simp only [State.safe, sessionOk, commandOk, contactsOk, transferOk, buffersOk, rspFill, Bool.and_eq_true]
  cases hs : s.sessState <;> simp_all [ownerOf, lastsOn, bne, beq_eq_decide]

/-- The row that is next fits the state. -/
theorem microFits_of_safe {s : State} {i : Instr} (h : s.safe = true) (ht : s.todo = .micro i) :
    microFits i s = true := by
  simp only [State.safe, todoFits, ht, Bool.and_eq_true] at h
  exact h.1.1.2

end Sys2Proof.Machine
end

