-- ==== Sys2Proof/Tests/Slice0.lean ====
section
/-! SUPPORT. The model's own tests: ill-formed terms, words written out from 30_encoding.md, single steps with results
from 95_test_vectors.md or worked by hand, and for every statement with hypotheses states that meet them. -/

namespace Sys2Proof.Tests

open Sys2Proof Sys2Proof.Machine

/-! ## States -/

/-- CFG0 (95_test_vectors.md 1.2). -/
def cfg0 : CfgArg := asmInit 0 3571200 372 1 0

/-- After `INIT` with CFG0. -/
def ready : State :=
  { State.reset with sessState := .ready, cfg := some (cfgOfArg cfg0), baudDiv := some 372, guardTicks := some 12 }

/-- The view of the ATR `3B 00` (V-AD-1). -/
def view0 : AtrView :=
  { ts := 0x3B, convention := 0, t0 := 0, k := 0, y1 := 0, groups := [], hist := [], tckPresent := false,
    tck := none, len := 2 }

/-- After a cold reset answered by `3B 00`. -/
def active : State :=
  { ready with sessState := .active, pinVcc := true, pinClk := true, pinRst := true, rsState := .atrCaptured,
               atr := [(0, 0x3B), (1, 0x00)], atrLen := 2, atrValid := true, atrd := some view0 }

/-- In `transfer 0x00 0x20 0x00 0x00 0x02 data 0x0A 0x0B`, before its flush. -/
def inXfer : State :=
  { active with busy := true, curOp := .transfer, owner := .xfer,
                hdr := some { cla := 0x00, ins := 0x20, p1 := 0x00, p2 := 0x00, p3 := 0x02 }, xcase := some .case2,
                dout := [(0, 0x0A), (1, 0x0B)], doutLen := 2, xferDeadline := some 1000, xferState := .sendHeader,
                todo := .flush }

/-- In a cold reset, with the contacts up and the window open. -/
def inReset : State :=
  { ready with busy := true, curOp := .coldReset, owner := .rs, pinVcc := true, pinClk := true, pinRst := true,
               rsState := .atrWindowOpen, tMark := some 0, atrDeadline := some 40000,
               todo := .micro (.rxChar 40000 (some 40000)) }

/-- In a warm reset, at its first line. -/
def inWarm : State :=
  { ready with busy := true, curOp := .warmReset, owner := .rs, rsKind := .warm, pinVcc := true, pinClk := true,
               todo := .contact .warmRstLow }

/-- The state of a result, `State.reset` where there is none. -/
def after : Result → State
  | .next t => t
  | .fault _ => State.reset
  | .refused _ => State.reset

/-- A character taken, `x` cycles beyond the least. -/
def answer (x : Nat) (nack : Bool) (rx : RxAnswer) : Reply := { extra := x, nack := nack, rx := rx }

/-! ## Ill-formed terms -/

theorem test_wf_transferD_length : Instr.wf (.transferD 0 0 0 0 2 [0x0A]) = false := by decide
theorem test_wf_decodeAtr_length : Instr.wf (.decodeAtr (List.replicate 56 0)) = false := by decide
theorem test_wf_procAck_null : Instr.wf (.procAck 0x60) = false := by decide
theorem test_wf_procAckInv_null : Instr.wf (.procAckInv 0x60) = false := by decide
theorem test_wf_procSw1_null : Instr.wf (.procSw1 0x60) = false := by decide
theorem test_wf_rxChar_wait : Instr.wf (.rxChar 0 none) = false := by decide

/-! ## Words written out from the encodings -/

-- CFG, R108, V-IN-1 row 1, least significant byte first
theorem test_decode_init :
    decode .command [0x01, 0x00, 0x22, 0x00, 0x03, 0x00, 0x7E, 0x36, 0x00, 0x74, 0x01, 0x01, 0x00] =
      .ok (.init cfg0, []) := by decide
-- V-IN-1 row 3: nack_inhibit = 1 in bits [16:15], so bit 15 of the low word
theorem test_decode_init_nack :
    decode .command [0x01, 0x00, 0xA2, 0x00, 0x03, 0x00, 0x7E, 0x36, 0x00, 0x74, 0x01, 0x01, 0x00] =
      .ok (.init { cfg0 with nackInhibit := 1 }, []) := by decide
-- DT, R109, V-DT-1 row 12
theorem test_decode_derive :
    decode .command [0x02, 0x05, 0x00, 0x02, 0x05, 0x01, 0x00, 0x00, 0x00] =
      .ok (.deriveTiming { fi := 5, di := 2, timeGuardEtu := 5, targetClockHz := 1 }, []) := by decide
-- R103
theorem test_decode_coldReset : decode .command [0x03] = .ok (.coldReset, []) := by decide
theorem test_decode_warmReset : decode .command [0x04] = .ok (.warmReset, []) := by decide
-- R100, R103
theorem test_decode_transfer :
    decode .command [0x05, 0x00, 0xB0, 0x01, 0x02, 0x03] = .ok (.transfer 0x00 0xB0 0x01 0x02 0x03, []) := by decide
theorem test_decode_transferD :
    decode .command [0x0D, 0x00, 0x20, 0x00, 0x00, 0x02, 0x02, 0x0A, 0x0B] =
      .ok (.transferD 0x00 0x20 0x00 0x00 0x02 [0x0A, 0x0B], []) := by decide
theorem test_decode_decodeAtr :
    decode .command [0x06, 0x03, 0x3A, 0x80, 0x01] = .ok (.decodeAtr [0x3A, 0x80, 0x01], []) := by decide
-- R127: bits [7:3] of a reserved op are free
theorem test_decode_reserved0 : decode .command [0xF8] = .ok (.reservedOp0 0x1F, []) := by decide
theorem test_decode_reserved7 : decode .command [0x0F] = .ok (.reservedOp7 0x01, []) := by decide
theorem test_decode_hdr :
    decode .header [0x00, 0xB0, 0x01, 0x02, 0x03] = .ok (.tpduHdr 0x00 0xB0 0x01 0x02 0x03, []) := by decide
-- R110 to R113; INS = 0x9F never sees 0x60 as ACK
theorem test_decode_procNull : decode (.proc 0x9F) [0x60] = .ok (.procNull, []) := by decide
theorem test_decode_procAck : decode (.proc 0xB0) [0xB0] = .ok (.procAck 0xB0, []) := by decide
theorem test_decode_procAckInv : decode (.proc 0xB0) [0x4F] = .ok (.procAckInv 0x4F, []) := by decide
theorem test_decode_procSw1 : decode (.proc 0xB0) [0x90] = .ok (.procSw1 0x90, []) := by decide
-- R116 to R121
theorem test_decode_ts : decode (.atr .ts) [0x3B] = .ok (.atrTsDirect, []) := by decide
theorem test_decode_ts_inverse : decode (.atr .ts) [0x3F] = .ok (.atrTsInverse, []) := by decide
theorem test_decode_t0 : decode (.atr .t0) [0x96] = .ok (.atrT0 9 6, []) := by decide
theorem test_decode_td : decode (.atr .td) [0x81] = .ok (.atrTd 8 1, []) := by decide
theorem test_decode_tck : decode (.atr .tck) [0x7F] = .ok (.atrTck 0x7F, []) := by decide
-- R125, R126
theorem test_decode_ok : decode .status [0x00] = .ok (.statusOk, []) := by decide
theorem test_decode_config : decode .status [0x01] = .ok (.statusConfigError, []) := by decide
theorem test_decode_noCard : decode .status [0x02] = .ok (.statusNoCardResponse, []) := by decide
theorem test_decode_malformed : decode .status [0x43] = .ok (.statusMalformedAtr .parity, []) := by decide
theorem test_decode_checksum : decode .status [0x04] = .ok (.statusChecksumError, []) := by decide
theorem test_decode_exhausted : decode .status [0x05] = .ok (.statusParityExhausted, []) := by decide
theorem test_decode_timeout : decode .status [0x06] = .ok (.statusCardTimeout, []) := by decide
theorem test_decode_violation : decode .status [0x07] = .ok (.statusProtocolViolation, []) := by decide
-- the micro-operations have no bytes (R221, R224)
theorem test_decode_micro : decode .micro [0x00] = .error .noFormat := by decide

-- rejections, R105 and R127
theorem test_reject_reserved_bits : decode .command [0x13] = .error .reservedBits := by decide
theorem test_reject_dp : decode .command [0x0B] = .error .dataPresent := by decide
theorem test_reject_dlen :
    decode .command [0x0D, 0x00, 0x20, 0x00, 0x00, 0x02, 0x01, 0x0A] = .error .lengthMismatch := by decide
theorem test_reject_n : decode .command (0x06 :: 56 :: List.replicate 56 0) = .error .tooManyBytes := by decide
theorem test_reject_ts : decode (.atr .ts) [0x3A] = .error .badTs := by decide

-- the rows of spec/opcode_table.json
theorem test_table_hdr : decodeTableWord 40 0x00B0010203 = some (.tpduHdr 0x00 0xB0 0x01 0x02 0x03) := by decide
theorem test_table_null : decodeTableWord 8 0x60 = some .procNull := by decide
theorem test_table_status : decodeTableWord 4 0x6 = some .statusCardTimeout := by decide
theorem test_table_cold : decodeTableWord 8 0x03 = some .coldReset := by decide
theorem test_table_decodeAtr : decodeTableWord 8 0x06 = some (.decodeAtr []) := by decide +kernel

/-! ## Steps, with results from 95_test_vectors.md or worked from the rules -/

-- V-DT-1 rows 3, 8 and 2
theorem test_derive_tie : derive 372 8 3571200 0 = some (47, 12) := by decide
theorem test_derive_zero_divisor : derive 1 3 1 0 = none := by decide
theorem test_derive_guard : derive 372 1 3571200 255 = some (372, 267) := by decide
-- V-DT-1 row 1 and row 6, as commands
theorem test_deriveTiming_ok :
    (after (exec (.deriveTiming { fi := 372, di := 1, timeGuardEtu := 0, targetClockHz := 3571200 }) State.reset)).resBaudDiv
      = some 372 := by decide
theorem test_deriveTiming_error :
    (after (exec (.deriveTiming { fi := 372, di := 0, timeGuardEtu := 0, targetClockHz := 1 }) State.reset)).rspStatus
      = .configError := by decide
-- V-IN-1 rows 4 and 9
theorem test_init_divisor :
    (after (exec (.init (asmInit 0 4000000 512 8 2)) { State.reset with replies := [answer 0 false .timeout] })).baudDiv
      = some 64 := by decide
theorem test_init_reserved : (after (exec (.init { cfg0 with reserved := 1 }) State.reset)).sessState = .none := by decide
-- V-AD-12, V-AD-24, V-AD-18
theorem test_atr_last_td :
    decodeAtr [0x3B, 0x80, 0x80, 0x01, 0x01] =
      .ok { ts := 0x3B, convention := 0, t0 := 0x80, k := 0, y1 := 8,
            groups := [{ index := 1, proto := none, ta := none, tb := none, tc := none, td := some 0x80 },
                       { index := 2, proto := some 0, ta := none, tb := none, tc := none, td := some 0x01 }],
            hist := [], tckPresent := true, tck := some 0x01, len := 5 } := by decide
theorem test_atr_checksum_first : decodeAtr [0x3B, 0x80, 0x01, 0x00, 0xFF] = .error .checksum := by decide
theorem test_atr_truncated : decodeAtr [0x3B, 0x80, 0x01] = .error (.needs .tck) := by decide
-- V-AD-25, as a command
theorem test_decodeAtr_trailing :
    (after (exec (.decodeAtr [0x3B, 0x00, 0x00]) active)).rspDetail = .trailing := by decide
-- R163, R107: a warm reset needs a running card
theorem test_warmReset_refused : exec .warmReset ready = .next ready := rfl
theorem test_coldReset_accepted : (after (exec .coldReset ready)).todo = .contact .coldRstLow := by decide
-- R104: P3 = 0 is Case 1 even with data present
theorem test_transferD_case1 : (after (exec (.transferD 0 0x10 0 0 0 []) active)).xcase = some .case1 := by decide
theorem test_transfer_case3 : (after (exec (.transfer 0 0xB0 0 0 3) active)).xcase = some .case3 := by decide
-- R127
theorem test_reserved0 : exec (.reservedOp0 0) ready = .next ready := rfl
theorem test_reserved7 : exec (.reservedOp7 0) ready = .next ready := rfl
-- R243: the third header byte is P1
theorem test_hdr_third :
    (after (exec (.tpduHdr 1 2 3 4 5) { inXfer with idx := 2 })).todo = .micro (.txChar 3) := by decide
-- R246: ACK in Case 1
theorem test_ack_violation :
    (after (exec (.procAck 0x20) { inXfer with xcase := some .case1 })).todo = .micro .statusProtocolViolation := by decide
-- R248: after ACK in Case 2 the first data byte goes out
theorem test_ackInv_dataOut : (after (exec (.procAckInv 0xDF) inXfer)).todo = .micro (.txChar 0x0A) := by decide
-- R247
theorem test_sw1 : (after (exec (.procSw1 0x90) inXfer)).sw1 = some 0x90 := by decide
-- R245: NULL keeps the overall deadline
theorem test_null : (after (exec .procNull inXfer)).xferDeadline = some 1000 := by decide
-- R176: the append, and P1's second character 00, which completes the ATR `3B 00` (R181)
theorem test_capture_ts : (after (exec .atrTsDirect inReset)).atr = [(0, 0x3B)] := by decide
theorem test_capture_ts_inverse : (after (exec .atrTsInverse inReset)).atrLen = 1 := by decide
theorem test_capture_t0 :
    (after (exec (.atrT0 0 0) { inReset with atr := [(0, 0x3B)], atrLen := 1 })).sessState = .active := by decide
-- V-AD-11: the last TD without a protocol completes the ATR, its group is number 2
theorem test_capture_td :
    (after (exec (.atrTd 0 0) { inReset with atr := [(0, 0x3B), (1, 0x80), (2, 0x80)], atrLen := 3 })).todo
      = .micro .statusOk := by decide
-- V-AD-9 and V-AD-22: the TCK that passes and one that fails
theorem test_capture_tck :
    (after (exec (.atrTck 0x81) { inReset with atr := [(0, 0x3B), (1, 0x80), (2, 0x01)], atrLen := 3 })).atrValid
      = true := by decide
theorem test_capture_tck_bad :
    (after (exec (.atrTck 0x00) { inReset with atr := [(0, 0x3B), (1, 0x80), (2, 0x01)], atrLen := 3 })).todo
      = .micro .statusChecksumError := by decide
-- T4: the third retry of the third header byte is the last
theorem test_txChar_last_retry :
    (after (exec (.txChar 0) { inXfer with char := .sent true, retry := 2, replies := [answer 0 true .timeout] })).retry
      = 3 := by decide
theorem test_txChar_exhausted :
    (after (exec (.txChar 0) { inXfer with char := .sent true, retry := 3 })).todo = .micro .statusParityExhausted := by
  decide
-- R225: the wait is cut to what is left to the deadline; the timeout of a character that came is not its duration
theorem test_rxChar_cut :
    (after (exec (.rxChar 5000 (some 1000)) { inXfer with now := 900, replies := [answer 7 false .timeout] })).history
      = [.recv 100 .timeout] := by decide
theorem test_rxChar_time :
    (after (exec (.rxChar 5000 none) { inXfer with now := 900, replies := [answer 7 false (.byte 0x90)] })).now = 908 := by
  decide
-- R251, R288, R289, R287, R291
theorem test_ok_retires : (after (exec .statusOk inXfer)).hdr = none := by decide
theorem test_configError :
    (after (exec .statusConfigError { ready with resBaudDiv := some 1 })).resBaudDiv = none := by decide
theorem test_noCard : (after (exec .statusNoCardResponse inReset)).sessState = .ready := by decide
theorem test_malformed_fails : (after (exec (.statusMalformedAtr .parity) inReset)).sessState = .failed := by decide
theorem test_checksum_standalone :
    (after (exec .statusChecksumError { active with curOp := .decodeAtr })).sessState = .active := by decide
theorem test_exhausted_drops : (after (exec .statusParityExhausted { inXfer with sw1 := some 1 })).sw1 = none := by decide
theorem test_timeout_keeps_idx : (after (exec .statusCardTimeout { inXfer with idx := 2 })).idx = 2 := by decide
theorem test_violation_status : (after (exec .statusProtocolViolation inXfer)).rspStatus = .protocolViolation := by decide
-- withFetchWord: the next step runs the word
theorem test_fetch_derive :
    (after (step (State.reset.withFetchWord 72 0x00367E000001017402))).resBaudDiv = some 372 := by decide +kernel
theorem test_fetch_status :
    (after (step (State.reset.withFetchWord 4 6))).rspStatus = .cardTimeout := by decide

/-! ## The hypotheses of the statements are met -/

/-- `DecodeOfEncode`, in each space that has bytes, at the longest command and the values beside 0x60. -/
theorem test_meets_decodeOfEncode :
    ∀ i ∈ [Instr.init cfg0, .decodeAtr (List.replicate 55 0), .transferD 0 0 0 0 0 [], .transferD 0 0 0 0 1 [7],
        .tpduHdr 0 0 0 0 0, .procNull, .procAck 0x61, .procAckInv 0x5F, .procSw1 0x61, .atrT0 15 15,
        .statusMalformedAtr .parity],
      i.wf = true ∧ i.space ≠ .micro := by decide

theorem test_meets_encodeOfDecode : decodeCommand [0x0D, 0, 0, 0, 0, 0, 0, 9] = .ok (.transferD 0 0 0 0 0 [], [9]) := by
  decide

theorem test_meets_refused_busy : inReset.busy = true ∧ inReset.curOp ≠ .transfer := by decide
theorem test_meets_refused_length : 55 < (List.replicate 56 (0 : Byte)).length := by decide
theorem test_meets_refused_data : active.busy = false ∧ ([] : List Byte).length ≠ (1 : Byte).toNat := by decide
theorem test_meets_refused_session :
    State.reset.busy = false ∧ State.reset.sessState ≠ .ready ∧ State.reset.sessState ≠ .active := by decide
theorem test_meets_refused_stopped : ready.busy = false ∧ ready.pinVcc = false ∧ ready.pinClk = false := by decide

/-- `MalformedCommandsRefused`, each clause at a boundary. -/
theorem test_meets_malformed_lengths :
    (∀ n ∈ [0, 11, 13], (List.replicate n (0 : Byte)).length ≠ 12) ∧
    (∀ n ∈ [0, 7, 9], (List.replicate n (0 : Byte)).length ≠ 8) ∧ [(0 : Byte)] ≠ [] ∧
    (∀ n ∈ [0, 4, 6], (List.replicate n (0 : Byte)).length ≠ 5) ∧
    (([0, 0, 0, 0, 2, 2, 9] : List Byte)[4]? = some 2 ∧ ([0, 0, 0, 0, 2, 2, 9] : List Byte).length ≠ 6 + (2 : Byte).toNat) ∧
    ([] : List Byte)[4]? = none ∧ (([0, 9] : List Byte).head? = some 0 ∧ ([0, 9] : List Byte).length ≠ 1 + (0 : Byte).toNat) ∧
    ([] : List Byte).head? = none := by decide

theorem test_meets_malformed :
    (0xF8 : Byte).extractLsb' 0 3 = (0 : BitVec 3) ∧ (0x07 : Byte).extractLsb' 0 3 = (7 : BitVec 3) ∧
    hiNibble 0x11 ≠ 0 ∧ ((0x0C : Byte).getLsbD 3 = true ∧ (0x0C : Byte).extractLsb' 0 3 ≠ (5 : BitVec 3)) ∧
    ([0, 0, 0, 0, 1, 0] : List Byte)[5]? ≠ ([0, 0, 0, 0, 1, 0] : List Byte)[4]? ∧
    (([56] : List Byte).head? = some 56 ∧ 55 < (56 : Byte).toNat) := by decide

theorem test_meets_divisor : (255 : BitVec 8) ≠ 0 ∧ (1 : BitVec 8) ≠ 0 := by decide

/-- `DeriveValidity`'s second clause, at the least and the greatest divisor. -/
theorem test_meets_deriveValidity :
    derive 1 2 1 0 = some (1, 12) ∧ derive 65535 1 1 255 = some (65535, 267) := by decide

theorem test_meets_deriveTiming :
    State.reset.busy = false ∧ derive 0 1 1 0 = none ∧ derive 1 2 1 0 = some (1, 12) := by decide

theorem test_meets_initSucceeds :
    active.busy = false ∧ cfg0.reserved = 0 ∧ cfg0.protocol = 0 ∧ cfg0.charLen = 8 ∧ cfg0.parity = 0 ∧
    cfg0.stopBits = 2 ∧ derive cfg0.fi cfg0.di cfg0.targetClockHz cfg0.timeGuardEtu = some (372, 12) := by decide

/-- `InitFails`, each clause by one field of CFG0 (V-IN-1 rows 5 to 11). -/
theorem test_meets_initFails :
    active.busy = false ∧ { cfg0 with reserved := 0x40 }.reserved ≠ 0 ∧ { cfg0 with protocol := 1 }.protocol ≠ 0 ∧
    { cfg0 with charLen := 7 }.charLen ≠ 8 ∧ { cfg0 with parity := 1 }.parity ≠ 0 ∧
    { cfg0 with stopBits := 1 }.stopBits ≠ 2 ∧ derive cfg0.fi 0 cfg0.targetClockHz cfg0.timeGuardEtu = none := by decide

theorem test_meets_resetAccepted :
    (ready.busy = false ∧ ready.sessState = .ready) ∧
    (active.busy = false ∧ active.sessState = .active ∧ active.pinVcc = true ∧ active.pinClk = true) := by decide

theorem test_meets_preempts : inXfer.busy = true ∧ inXfer.curOp = .transfer := by decide

/-- `ContactsDriven`, `MinimumWaits` and `WindowOpens`: the state at any line of the sequencer. -/
theorem test_meets_contacts :
    ∀ c ∈ [Contact.coldRstLow, .coldClkOff, .coldVccOff, .coldVccOn, .clkOn, .clkRstLow, .warmRstLow, .resetFlush,
        .rstHigh, .vccWait, .holdWait, .released, .openWindow],
      dueMove { inReset with todo := .contact c } = none ∧ { inReset with todo := .contact c }.todo = .contact c ∧
      { inReset with todo := .contact c }.tMark = some 0 := by decide

/-- `AtrCharactersAppended`, empty and with one place left. -/
theorem test_meets_appended : (0 : BitVec 8).toNat < 55 ∧ (54 : BitVec 8).toNat < 55 := by decide

theorem test_meets_capture :
    dueMove { inReset with todo := .capture 0x3A } = none ∧ { inReset with todo := .capture 0x3A }.todo = .capture 0x3A ∧
    inReset.atrLen.toNat < 55 ∧ { inReset with atrLen := 55 }.atrLen.toNat = 55 := by decide
-- R172, R176, R192: an illegal TS is captured, and then ends the reset
theorem test_capture_bad_ts :
    (after (step { inReset with todo := .capture 0x3A })).todo = .micro (.statusMalformedAtr .badTs) := by decide

/-- The bytes of the buffer ATR of a state. -/
def withAtr (bs : List Byte) : State := { inReset with atr := memOfBytes bs, atrLen := BitVec.ofNat 8 bs.length }

/-- `AtrProgressTest`, each clause: complete, more needed, full, a bad TS, a bad TCK. -/
theorem test_meets_progress :
    decodeAtr [0x3B, 0x00] = .ok view0 ∧
    (atrBytes 2 (withAtr [0x3B, 0x00]) = [0x3B, 0x00]) ∧
    (decodeAtr [0x3B] = .error (.needs .t0) ∧ inReset.baudDiv = some 372 ∧ (withAtr [0x3B]).atrLen.toNat < 55) ∧
    atrBytes 1 (withAtr [0x3B]) = [0x3B] ∧
    decodeAtr [0x3A] = .error .badTs ∧ atrBytes 1 (withAtr [0x3A]) = [0x3A] ∧
    decodeAtr [0x3B, 0x80, 0x01, 0x00] = .error .checksum ∧
    atrBytes 4 (withAtr [0x3B, 0x80, 0x01, 0x00]) = [0x3B, 0x80, 0x01, 0x00] := by decide

/-- 55 bytes of an ATR that declares more: `3B F0` and thirteen groups of `00 00 00 F0`, then one TA. -/
def endless : List Byte := 0x3B :: 0xF0 :: ((List.replicate 13 [0x00, 0x00, 0x00, 0xF0]).flatten ++ [0x00])

theorem test_meets_progress_full :
    (withAtr endless).atrLen.toNat = 55 ∧ atrBytes 55 (withAtr endless) = endless := by decide
theorem test_meets_progress_full_needs : decodeAtr endless = .error (.needs .tb) := by decide

theorem test_meets_atrFull : 55 ≤ (55 : BitVec 8).toNat ∧ 55 ≤ (255 : BitVec 8).toNat := by decide

/-- `DecoderPrefixes`, each clause. -/
theorem test_meets_prefixes :
    ([0x00] : List Byte) ≠ [] ∧ decodeAtr [0x3B, 0x00] = .ok view0 ∧
    decodeAtr [0x3B, 0x80, 0x01, 0x00] = .error .checksum ∧ decodeAtr [0x3A] = .error .badTs ∧
    decodeAtr [0x3B, 0x00, 0x00] = .error .trailing ∧ decodeAtr ([0x3B] ++ [0x00]) = .ok view0 ∧
    ((0x3A : Byte) ≠ 0x3B ∧ (0x3A : Byte) ≠ 0x3F) ∧ decodeAtr ([0x3B, 0x80] ++ [0x01, 0x00]) = .error .checksum ∧
    decodeAtr ([0x3B, 0x80, 0x01, 0x00] ++ [0xFF]) = .error .checksum := by decide

/-- The structure of V-AD-12, whose TCK is `tck`: it passes for 0x01. -/
def viewTck (tck : Byte) : AtrView :=
  { ts := 0x3B, convention := 0, t0 := 0x80, k := 0, y1 := 8,
    groups := [{ index := 1, proto := none, ta := none, tb := none, tc := none, td := some 0x80 },
               { index := 2, proto := some 0, ta := none, tb := none, tc := none, td := some 0x01 }],
    hist := [], tckPresent := true, tck := some tck, len := 5 }

/-- `ViewIsFaithful`'s second clause: with a TCK that passes, with one that does not, and without. -/
theorem test_meets_structured :
    ((viewTck 0x01).structured = true ∧ (viewTck 0x01).checked = true) ∧
    ((viewTck 0x00).structured = true ∧ (viewTck 0x00).checked = false) ∧
    (view0.structured = true ∧ view0.checked = true) := by decide

/-- `ViewFields`: a first group, a group after a TD, the last group with a TD (V-AD-12). -/
theorem test_meets_groups :
    decodeAtr [0x3B, 0x80, 0x80, 0x01, 0x01] = .ok (viewTck 0x01) ∧ (viewTck 0x01).groups.length = 2 ∧
    ((viewTck 0x01).groups.getLast?.bind AtrGroup.td) = some 0x01 := by decide

/-- `ViewIsFaithful` and `ViewFields`: a view with a TCK. -/
theorem test_meets_view :
    ((match decodeAtr [0x3F, 0x80, 0x01, 0x81] with | .ok v => v.tckPresent | .error _ => false) = true) ∧
    ([0x3F, 0x80, 0x01, 0x81] : List Byte).length < 256 := by decide

theorem test_meets_decodeAtrRuns :
    active.busy = false ∧ (List.replicate 55 (0 : Byte)).length ≤ 55 ∧ ([] : List Byte).length ≤ 55 ∧
    decodeAtr [] = .error (.needs .ts) := by decide

/-- `TxCharSends`, the first sending and a retry. -/
theorem test_meets_txSends :
    inXfer.char = .fresh ∧ ({ inXfer with char := .sent true }.char = .sent true ∧ inXfer.retry ≠ inXfer.cfgMaxIterations ∧
      (1 : BitVec 8) = inXfer.retry + 1) := by decide

/-- `TxCharReturns`, each clause at the ends of its range. -/
theorem test_meets_txReturns :
    inXfer.hdr = some { cla := 0x00, ins := 0x20, p1 := 0x00, p2 := 0x00, p3 := 0x02 } ∧ inXfer.baudDiv = some 372 ∧
    { inXfer with retry := 3 }.retry = inXfer.cfgMaxIterations ∧ inXfer.xferState = .sendHeader ∧
    ((0 : BitVec 9) + 1).toNat < (0x02 : Byte).toNat ∧ memRead inXfer.dout ((0 : BitVec 9) + 1).toNat = some 0x0B ∧
    (0x02 : Byte).toNat ≤ ((1 : BitVec 9) + 1).toNat := by decide

/-- `RxCharReceives`, with a deadline one cycle away, at the first try and after an error signal. -/
theorem test_meets_rxReceives :
    (∀ a ∈ [RxAnswer.timeout, .byte 0], inReset.char ≠ .got a) ∧ inReset.char ≠ .nacked ∧
    { inReset with char := .nacked }.char = .nacked ∧ { inReset with now := 39999 }.now < 40000 := by decide

/-- `RxCharTimesOut`, by a timeout and by a deadline just reached, in each of the three conclusions. -/
theorem test_meets_rxTimesOut :
    { inXfer with char := .got .timeout }.char = .got .timeout ∧ inXfer.owner = .xfer ∧
    (1000 ≤ { inXfer with now := 1000 }.now ∧ inXfer.char = .fresh) ∧
    (inReset.owner = .rs ∧ inReset.rsState = .atrWindowOpen) ∧
    { inReset with rsState := .atrCaptured }.rsState ≠ .atrWindowOpen := by decide

/-- `RxCharParityError` and `InhibitTakesWrongParity`. -/
theorem test_meets_rxParity :
    { inXfer with char := .got (.parity 0x11) }.char = .got (.parity 0x11) ∧ inXfer.cfg = some (cfgOfArg cfg0) ∧
    (cfgOfArg cfg0).nackInhibit.getLsbD 0 = false ∧ inXfer.retry ≠ inXfer.cfgMaxIterations ∧
    { inXfer with retry := 3 }.retry = inXfer.cfgMaxIterations ∧ inXfer.owner = .xfer ∧ inReset.owner = .rs ∧
    (cfgOfArg { cfg0 with nackInhibit := 1 }).nackInhibit.getLsbD 0 = true := by decide

/-- A transfer that waits, with a character in hand. -/
def got (b : Byte) (x : XferState) (n : BitVec 9) : State :=
  { inXfer with char := .got (.byte b), xferState := x, idx := n }

/-- `RxCharProcedureByte`, before and after SW1. -/
theorem test_meets_rxProc :
    (got 0x60 .awaitProcedureByte 5).char = .got (.byte 0x60) ∧ (got 0x60 .awaitProcedureByte 5).owner = .xfer ∧
    (got 0x60 .awaitProcedureByte 5).xferState = .awaitProcedureByte ∧ (got 0x60 .awaitProcedureByte 5).sw1 = none ∧
    (got 0x60 .awaitProcedureByte 5).hdr.isSome = true ∧
    { got 0x60 .awaitProcedureByte 5 with sw1 := some 0x90 }.sw1 ≠ none := by decide

/-- `RxCharDataIn`, at the first and the last data byte. -/
theorem test_meets_rxDataIn :
    (got 0x60 .dataIn 0).char = .got (.byte 0x60) ∧ (got 0x60 .dataIn 0).xferState = .dataIn ∧
    (got 0x60 .dataIn 0).idx.toNat < (0x02 : Byte).toNat ∧ (got 0x60 .dataIn 1).idx.toNat < (0x02 : Byte).toNat ∧
    (got 0x60 .dataIn 0).baudDiv = some 372 ∧ (got 0x60 .dataIn 0).hdr.isSome = true := by decide

/-- `RxCharStatusBytes`, after data out and after data in. -/
theorem test_meets_rxStatus :
    (got 0x60 .dataOut 2).xferState = .dataOut ∧
    ((got 0x60 .dataIn 2).xferState = .dataIn ∧ (0x02 : Byte).toNat ≤ (got 0x60 .dataIn 2).idx.toNat) ∧
    (got 0x60 .dataIn 2).sw1 = none ∧ { got 0x60 .dataIn 2 with sw1 := some 0x90 }.sw1 ≠ none := by decide

/-- `RxCharAtrByte`: the first character just inside the window and just after it. -/
theorem test_meets_window :
    inReset.owner = .rs ∧ inReset.rsState = .atrWindowOpen ∧ inReset.atrDeadline = some 40000 ∧
    { inReset with now := 39999 }.now < 40000 ∧ 40000 ≤ { inReset with now := 40000 }.now := by decide
-- R340: less than 40000 cycles from the release, or NoCardResponse
theorem test_ts_in_window :
    (after (exec (.rxChar 40000 (some 40000)) { inReset with char := .got (.byte 0x3B), now := 39999 })).todo
      = .micro .atrTsDirect := by decide
theorem test_ts_late :
    (after (exec (.rxChar 40000 (some 40000)) { inReset with char := .got (.byte 0x3B), now := 40000 })).todo
      = .micro .statusNoCardResponse := by decide
-- R180, D14: spent retries are MalformedAtr with PARITY also when the window is over
theorem test_ts_exhausted_late :
    (after (exec (.rxChar 40000 (some 40000))
      { inReset with char := .got (.parity 0x3B), retry := 3, now := 40000 })).todo
      = .micro (.statusMalformedAtr .parity) := by decide

/-- `RxCharAtrByte`, first clause, at both ends of an ATR with two groups and a TCK (R115, V-AD-12). -/
theorem test_meets_roles :
    (viewTck 0x01).structured = true ∧ (viewTck 0x01).roles = [.ts, .t0, .td, .td, .tck] ∧
    (viewTck 0x01).bytes.length = 5 := by decide

/-- `RxCharAtrByte`: every role is met. -/
theorem test_meets_rxAtr :
    { inReset with char := .got (.byte 0x3B) }.owner = .rs ∧ nextRole [] = some .ts ∧ nextRole [0x3B] = some .t0 ∧
    nextRole [0x3B, 0x11] = some .ta ∧ nextRole [0x3B, 0x20] = some .tb ∧ nextRole [0x3B, 0x40] = some .tc ∧
    nextRole [0x3B, 0x80] = some .td ∧ nextRole [0x3B, 0x01] = some .hist ∧
    nextRole [0x3B, 0x80, 0x01] = some .tck := by decide

theorem test_meets_transfer : active.busy = false ∧ active.sessState = .active ∧ active.baudDiv = some 372 := by decide
theorem test_meets_transferD :
    (List.replicate 255 (0 : Byte)).length = (255 : Byte).toNat ∧ ([] : List Byte).length = (0 : Byte).toNat := by
  decide +kernel

theorem test_meets_flush : dueMove inXfer = none ∧ inXfer.todo = .flush ∧ inXfer.hdr.isSome = true := by decide

/-- `HeaderGoesOut`, at the first and the last byte, and past it. -/
theorem test_meets_header :
    ([1, 2, 3, 4, 5] : List Byte)[(0 : BitVec 9).toNat]? = some 1 ∧ ([1, 2, 3, 4, 5] : List Byte)[(4 : BitVec 9).toNat]? = some 5 ∧
    5 ≤ (5 : BitVec 9).toNat ∧ inXfer.baudDiv = some 372 ∧ inXfer.xferDeadline = some 1000 := by decide

/-- `AckStartsDataPhase`, each case. -/
theorem test_meets_ack :
    { inXfer with xcase := some .case1 }.xcase = some .case1 ∧ inXfer.xcase = some .case2 ∧
    { inXfer with xcase := some .case3 }.xcase = some .case3 ∧ (0x02 : Byte) ≠ 0 ∧ memRead inXfer.dout 0 = some 0x0A := by
  decide

/-- `OkEndsCommand` and `AtrErrorsEndCommand`: the commands named. -/
theorem test_meets_ends :
    inXfer.curOp = .transfer ∧ inReset.curOp ≠ .transfer ∧ inReset.curOp = .coldReset ∧ inWarm.curOp = .warmReset ∧
    { active with curOp := .decodeAtr }.curOp = .decodeAtr := by decide

/-- A state at whose port a command waits. -/
def presented (bs : List Byte) : State := { ready with port := [{ notBefore := 0, move := .command bs }] }

theorem test_meets_stepCommand :
    (presented [0x03]).port = [{ notBefore := 0, move := .command [0x03] }] ∧ (presented [0x03]).midStep = false ∧
    0 ≤ (presented [0x03]).tick ∧ decodeCommand [0x03] = .ok (.coldReset, []) ∧
    decodeCommand [0x03, 0x03] = .ok (.coldReset, [0x03]) ∧ decodeCommand [0x13] = .error .reservedBits := by decide

/-- `StepRunsPresentedCommand` between two lines of a step of R13, with a step that goes on. -/
theorem test_meets_stepWaits :
    { presented [0x03] with midStep := true }.midStep = true ∧
    (after (step { presented [0x03] with midStep := true, todo := .micro .procNull })).port = (presented [0x03]).port := by
  decide

theorem test_meets_stepRow :
    dueMove inReset = none ∧ inReset.todo = .micro (.rxChar 40000 (some 40000)) := by decide
theorem test_meets_stepIdle : dueMove ready = none ∧ ready.todo = .idle := by decide
/-- A row that faults (log entry 10). -/
theorem test_meets_stepFault :
    dueMove { inReset with atrLen := 55, todo := .micro (.atrTck 0) } = none ∧
    exec (.atrTck 0) { inReset with atrLen := 55, todo := .micro (.atrTck 0) } = .fault .bufferRange := ⟨by decide, rfl⟩

theorem test_meets_hardwareReset :
    { inXfer with port := [{ notBefore := 0, move := .hardwareReset }] }.port = [{ notBefore := 0, move := .hardwareReset }] := by
  decide

/-- `ConfigurationImmutable` and `TimeNeverDecreases`: a reset command that runs. -/
theorem test_meets_immutable :
    fetch (presented [0x03]) = .command [0x03] ∧ (∃ t, step (presented [0x03]) = .next t) :=
  ⟨by decide, after (step (presented [0x03])), rfl⟩

/-- The invariants: safe states at rest, in a session, in a transfer, in a cold and in a warm reset. -/
theorem test_meets_safe :
    ready.safe = true ∧ active.safe = true ∧ inXfer.safe = true ∧ inReset.safe = true ∧ inWarm.safe = true := by decide
theorem test_meets_canonical : buffersCanonical inXfer = true ∧ retryOk inXfer = true := by decide

/-- A safe state in a transfer and one in a warm reset from which a step goes on with no host move due. -/
theorem test_meets_transferStep :
    inXfer.curOp = .transfer ∧ dueMove inXfer = none ∧
    step { inXfer with replies := [answer 0 false .timeout] } =
      .next (after (step { inXfer with replies := [answer 0 false .timeout] })) := ⟨by decide, by decide, rfl⟩
theorem test_meets_warmStep :
    inWarm.curOp = .warmReset ∧ dueMove inWarm = none ∧
    step { inWarm with replies := [answer 0 false .timeout] } =
      .next (after (step { inWarm with replies := [answer 0 false .timeout] })) := ⟨by decide, by decide, rfl⟩

theorem test_meets_view_numbers :
    State.reset.sessState = .none ∧ ready.sessState ≠ .none ∧ ready.baudDiv = some 372 ∧ ready.guardTicks = some 12 ∧
    ready.cfg = some (cfgOfArg cfg0) ∧ ready.midStep = false ∧
    23 ≤ (23 : BitVec 5).toNat ∧ 23 ≤ (31 : BitVec 5).toNat := by decide
-- V-IN-1 row 1: the packed CFG word of the session
theorem test_view_cfg : statusView 20 ready = some 0x0001017400367E0003002200 := by decide

/-- In a cold reset, T0 of `3B 00` received: its capture makes the session active before the response (R181). -/
def lastAtr : State :=
  { inReset with atr := [(0, 0x3B)], atrLen := 1, rsState := .atrCaptured, todo := .micro (.atrT0 0 0) }

/-- `StatusViewReads`, first clause: a step that ends between two lines of a step of R13. -/
theorem test_meets_view_held :
    ∃ t, step lastAtr = .next t ∧ t.midStep = true ∧ t.sessState = .active :=
  ⟨after (step lastAtr), rfl, by decide, by decide⟩
-- R13, R62: the stabilization delay is part of the step of ChClk(On), so the view still has Idle after it
theorem test_view_wait :
    (fun t => (t.rsState, statusView 4 t)) (after (step { inWarm with rsKind := .cold, todo := .contact .vccWait }))
      = (.vccStable, some 0) := by decide
-- R338: the view still has S_READY then
theorem test_view_held : statusView 0 (after (step lastAtr)) = some 1 := by decide

/-- After `INIT`, a transfer and a failed reset: the places of the payloads. -/
def answered : State :=
  { active with resBaudDiv := some 372, resGuardTicks := some 12, sw1 := some 0x90, sw2 := some 0x00, decd := some view0 }

/-- `StatusViewReads`, the payloads: each hypothesis that a response's places hold values, or none. -/
theorem test_meets_payloads :
    answered.resBaudDiv = some 372 ∧ answered.resGuardTicks = some 12 ∧ answered.baudDiv = some 372 ∧
    answered.guardTicks = some 12 ∧ ready.resBaudDiv = none ∧ answered.curOp = .none ∧
    (answered.atrd = some view0 ∧ answered.rsKind = .cold ∧ { answered with rsKind := .warm }.rsKind = .warm) ∧
    ({ inWarm with curOp := .none, rsState := .atrTimeout }.atrd = none ∧
      { inWarm with curOp := .none, rsState := .atrTimeout }.rsState = .atrTimeout) ∧
    inReset.curOp = .coldReset ∧ inWarm.curOp = .warmReset ∧ answered.decd = some view0 ∧ ready.decd = none ∧
    answered.sw1 = some 0x90 ∧ answered.sw2 = some 0x00 ∧ inXfer.curOp = .transfer ∧ ready.sw2 = none := by decide
/-- `StatusViewReads`: an `INIT` that succeeds and one that fails, the two resets and the two transfers accepted, the
pre-emption, and a safe state in a card reset that goes on. -/
theorem test_meets_payload_writers :
    answered.busy = false ∧ (after (exec (.init cfg0) answered)).rspStatus = .ok ∧
    (after (exec (.init { cfg0 with parity := 1 }) answered)).rspStatus ≠ .ok ∧
    accepts .coldReset answered = true ∧ accepts .warmReset answered = true ∧ accepts .transfer answered = true ∧
    (inXfer.busy = true ∧ inXfer.curOp = .transfer) ∧
    { active with resBaudDiv := some 1 }.resBaudDiv ≠ active.baudDiv ∧ inWarm.rsKind = .warm ∧ ready.rsState = .idle := by
  decide
theorem test_meets_payload_steps :
    inWarm.safe = true ∧ inWarm.curOp = .warmReset ∧ fetch inWarm ≠ .hardwareReset ∧
    step inWarm = .next (after (step inWarm)) := ⟨by decide, by decide, by decide, rfl⟩
-- R331: a card reset keeps the response of the transfer before it
theorem test_payload_reset : payload .transfer (after (exec .coldReset answered)) = .response [] 0x90 0x00 := by decide

-- R150: the response of INIT has the handle 0
theorem test_payload_handle : payload .init answered = .session 0 372 12 := by decide
-- R331: a DECODE_ATR that fails leaves the response of the reset readable
theorem test_payload_stays :
    payload .coldReset (after (exec (.decodeAtr [0x3A]) answered)) = .atr [some 0x3B, some 0x00] view0 := by decide

end Sys2Proof.Tests
end

section
/-! The step with no host move due: the next line of the command in flight, or time passing. -/

namespace Sys2Proof.Machine

/-- `step_cases` when no host move is due: the fetch leaves the command in flight its turn. -/
theorem step_of_no_move {s : State} (hmove : dueMove s = none) :
    step s = holdShownResult s (runFlight s.todo s) := by
  rcases step_cases s with ⟨hfetch, -⟩ | ⟨bs, hfetch, -⟩ | ⟨-, -, hstep⟩
  · simp [fetch, hmove] at hfetch
  · simp [fetch, hmove] at hfetch
  · exact hstep

theorem step_of_micro {s : State} {i : Instr} (hmove : dueMove s = none) (htodo : s.todo = .micro i) :
    step s = holdShownResult s (exec i s) := by
  rw [step_of_no_move hmove, htodo, runFlight]

/-- Time passing ends the step of R13, so the status view holds nothing back. -/
theorem step_of_idle {s : State} (hmove : dueMove s = none) (htodo : s.todo = .idle) :
    step s = .next (idleTick s) := by
  rw [step_of_no_move hmove, htodo, runFlight, holdShownResult, holdShown_of_done s (idleTick_midStep s)]

/-- Settles O48: each outcome of the row passes through `holdShownResult`, which touches `shown` alone. -/
theorem stepRunsNextRow : Obligations.StepRunsNextRow := by
  intro s hmove
  refine ⟨fun i htodo => ?_, fun htodo => step_of_idle hmove htodo⟩
  rw [step_of_micro hmove htodo]
  refine ⟨fun t hexec => ?next, fun f hexec => ?fault, fun r hexec => ?refused⟩
  case next => rw [hexec, holdShownResult, holdShown]
  case fault => rw [hexec, holdShownResult]
  case refused => rw [hexec, holdShownResult]

end Sys2Proof.Machine
end

section
/-! What the lines of the command in flight leave alone: a line without a channel primitive is, outside the registers of
the engine it belongs to, a bare `goto`. And what each command does, once: it is refused, or one of its outcomes. -/

namespace Sys2Proof.Machine

/-! ## The Reset Sequencer's lines (41_reset_sequencer.md) -/

/-- The state with the registers blanked that a line of the ATR capture writes: two states agree on all others exactly
when these are equal. -/
def outsideCapture (s : State) : State :=
  { s with sessState := .none, rsState := .idle, atr := [], atrLen := 0, atrValid := false, atrd := none,
           todo := .idle }

theorem atrProgress_outside (s : State) : outsideCapture (atrProgress s) = outsideCapture (goto .idle s) := by
  rcases atrProgress_cases s with ⟨v, -, h⟩ | ⟨r, -, -, h⟩ | ⟨d, h⟩ | ⟨-, h⟩ <;> rw [h] <;> rfl

theorem captureAtr_outside {b : Byte} {s t : State} (h : captureAtr b s = .next t) :
    outsideCapture t = outsideCapture (goto .idle s) := by
  obtain ⟨-, rfl⟩ := captureAtr_eq_next h
  exact atrProgress_outside _

theorem atrTimeout_outside (s : State) : outsideCapture (atrTimeout s) = outsideCapture (goto .idle s) := by
  unfold atrTimeout
  split <;> rfl

theorem atrByte_outside (b : Byte) (s : State) : outsideCapture (atrByte b s) = outsideCapture (goto .idle s) := by
  rcases atrByte_cases b s with ⟨-, h⟩ | ⟨-, h⟩ <;> rw [h] <;> rfl

theorem atrExhausted_outside (s : State) : outsideCapture (atrExhausted s) = outsideCapture (goto .idle s) := rfl

/-! ## The Transfer Engine's lines (44_tpdu_transfer.md) -/

/-- The state with the registers blanked that a line of the Transfer Engine writes between the acceptance and the end of
a transfer. -/
def outsideTransfer (s : State) : State :=
  { s with xferState := .idle, idx := 0, rsp := [], rspLen := 0, sw1 := none, sw2 := none, todo := .idle }

theorem dataOutLoop_outside (s : State) : outsideTransfer (dataOutLoop s) = outsideTransfer (goto .idle s) := by
  unfold dataOutLoop
  split <;> rfl

theorem dataInLoop_outside (s : State) : outsideTransfer (dataInLoop s) = outsideTransfer (goto .idle s) := by
  unfold dataInLoop
  split <;> rfl

theorem execTpduHdr_outside {cla ins p1 p2 p3 : Byte} {s t : State} (h : execTpduHdr cla ins p1 p2 p3 s = .next t) :
    outsideTransfer t = outsideTransfer (goto .idle s) := by
  unfold execTpduHdr at h
  split at h <;> cases h <;> rfl

theorem ackReaction_outside (s : State) : outsideTransfer (ackReaction s) = outsideTransfer (goto .idle s) := by
  rcases ackReaction_cases s with ⟨-, h⟩ | ⟨-, h⟩ | ⟨-, h⟩ <;> rw [h]
  · rfl
  · exact dataOutLoop_outside _
  · exact dataInLoop_outside _

theorem sentByte_outside (s : State) : outsideTransfer (sentByte s) = outsideTransfer (goto .idle s) := by
  unfold sentByte
  split
  case h_2 => exact dataOutLoop_outside _
  all_goals rfl

theorem statusByte_outside (b : Byte) (s : State) :
    outsideTransfer (statusByte b s) = outsideTransfer (goto .idle s) := by
  rcases statusByte_cases b s with ⟨-, h⟩ | ⟨-, h⟩ <;> rw [h] <;> rfl

theorem procedureByte_outside (b : Byte) (s : State) :
    outsideTransfer (procedureByte b s) = outsideTransfer (goto .idle s) := by
  rcases procedureByte_cases b s with ⟨-, h⟩ | ⟨-, h⟩ <;> rw [h] <;> rfl

theorem dataInByte_outside {b : Byte} {s t : State} (h : dataInByte b s = .next t) :
    outsideTransfer t = outsideTransfer (goto .idle s) := by
  rcases dataInByte_eq_next h with ⟨-, -, rfl⟩ | ⟨-, rfl⟩
  · exact dataInLoop_outside _
  · exact statusByte_outside b s

theorem xferByte_outside {b : Byte} {s t : State} (h : xferByte b s = .next t) :
    outsideTransfer t = outsideTransfer (goto .idle s) := by
  unfold xferByte at h
  split at h
  case h_3 => exact dataInByte_outside h
  all_goals cases h
  · exact procedureByte_outside b s
  · exact statusByte_outside b s
  all_goals rfl

/-! ## The micro-operations (43_char_retry.md) -/

/-- `TX_CHAR` returns to the engine, or sends once more with a count of its own: 0, or one more within the budget. -/
theorem execTxChar_cases (b : Byte) (s : State) :
    execTxChar b s = .next (sentByte s) ∨ execTxChar b s = .next (sendExhausted s) ∨
    ∃ n, (n = 0 ∨ s.char = .sent true ∧ s.retry ≠ s.cfgMaxIterations ∧ n = s.retry + 1) ∧
      execTxChar b s = .next (trySend b { s with retry := n }) := by
  unfold execTxChar
  split
  · exact .inl rfl
  · split
    · exact .inr (.inl rfl)
    · exact .inr (.inr ⟨_, .inr ⟨‹_›, ‹_›, rfl⟩, rfl⟩)
  all_goals exact .inr (.inr ⟨0, .inl rfl, rfl⟩)

/-- `RX_CHAR` returns a character, a timeout or a spent budget to its caller, signals an error within the budget, or goes
to the head of its loop with a count of its own: 0, or the one after a signal. -/
theorem execRxChar_cases (wait : Nat) (dl : Option Nat) (s : State) :
    (∃ b, execRxChar wait dl s = rxByte b s) ∨ execRxChar wait dl s = .next (rxTimeout s) ∨
    execRxChar wait dl s = .next (rxExhausted s) ∨
    (∃ b, s.char = .got (.parity b) ∧ s.retry ≠ s.cfgMaxIterations ∧
      execRxChar wait dl s = .next (nackAndRetry wait dl s)) ∨
    ∃ n, (n = 0 ∨ s.char = .nacked ∧ n = s.retry) ∧
      execRxChar wait dl s = .next (tryRecv wait dl { s with retry := n }) := by
  unfold execRxChar
  split
  · exact .inl ⟨_, rfl⟩
  · exact .inr (.inl rfl)
  · split
    · exact .inl ⟨_, rfl⟩
    · split
      · exact .inr (.inr (.inl rfl))
      · exact .inr (.inr (.inr (.inl ⟨_, ‹_›, ‹_›, rfl⟩)))
  · exact .inr (.inr (.inr (.inr ⟨s.retry, .inr ⟨‹_›, rfl⟩, rfl⟩)))
  all_goals exact .inr (.inr (.inr (.inr ⟨0, .inl rfl, rfl⟩)))

/-! ### The caller of `RX_CHAR` (10_state.md R23) -/

theorem rxByte_of_rs {s : State} (h : s.owner = .rs) (b : Byte) : rxByte b s = .next (atrByte b s) := by
  simp only [rxByte, h]

theorem rxByte_of_xfer {s : State} (h : s.owner = .xfer) (b : Byte) : rxByte b s = xferByte b s := by
  simp only [rxByte, h]

theorem rxTimeout_of_rs {s : State} (h : s.owner = .rs) : rxTimeout s = atrTimeout s := by
  simp only [rxTimeout, h]

theorem rxTimeout_of_xfer {s : State} (h : s.owner = .xfer) : rxTimeout s = xferTimeout s := by
  simp only [rxTimeout, h]

theorem rxExhausted_of_rs {s : State} (h : s.owner = .rs) : rxExhausted s = atrExhausted s := by
  simp only [rxExhausted, h]

theorem rxExhausted_of_xfer {s : State} (h : s.owner = .xfer) : rxExhausted s = xferExhausted s := by
  simp only [rxExhausted, h]

/-- The head of the loop of `RX_CHAR` times out, or makes one `ChRecv`. -/
theorem tryRecv_cases (wait : Nat) (dl : Option Nat) (s : State) :
    tryRecv wait dl s = rxTimeout s ∨
    tryRecv wait dl s = continueAt (.micro (.rxChar wait dl)) (chRecv (recvTimeout wait dl s) s) := by
  unfold tryRecv
  split
  · exact .inl rfl
  · exact .inr rfl

/-! ## The commands that end in their step -/

/-- `DERIVE_TIMING` is refused, succeeds, or fails (R141). -/
theorem execDeriveTiming_cases (d : DtArg) (s : State) :
    execDeriveTiming d s = .next s ∨
    s.busy = false ∧
    ((∃ b g, execDeriveTiming d s = .next (respond .ok .none
        { begin .deriveTiming s with resBaudDiv := some b, resGuardTicks := some g })) ∨
      execDeriveTiming d s = .next (raiseConfigError (begin .deriveTiming s))) := by
  unfold execDeriveTiming
  split
  · rename_i ha
    refine .inr ⟨by simpa [accepts] using ha, ?_⟩
    unfold runDeriveTiming
    split
    · exact .inr rfl
    · exact .inl ⟨_, _, rfl⟩
  · exact .inl rfl

/-- `INIT` is refused, succeeds with the timing `derive` gives, or fails (R149, R150, R152). -/
theorem execInit_cases (c : CfgArg) (s : State) :
    execInit c s = .next s ∧ s.busy = true ∨
    s.busy = false ∧
    ((∃ b g, derive c.fi c.di c.targetClockHz c.timeGuardEtu = some (b, g) ∧
        execInit c s = .next (respond .ok .none (startSession c b g (begin .init s)))) ∨
      execInit c s = .next (raiseConfigError (begin .init s))) := by
  unfold execInit
  split
  · rename_i ha
    refine .inr ⟨by simpa [accepts] using ha, ?_⟩
    unfold runInit
    split
    · split
      · exact .inr rfl
      · exact .inl ⟨_, _, ‹_›, rfl⟩
    · exact .inr rfl
  · rename_i ha
    exact .inl ⟨rfl, by simpa [accepts] using ha⟩

/-- `DECODE_ATR` is refused, or `RAW` holds its bytes and `DECD` the view, if there is one (R190, R289). -/
theorem execDecodeAtr_cases (bs : List Byte) (s : State) :
    execDecodeAtr bs s = .next s ∨
    s.busy = false ∧ bs.length ≤ Config.atrMax ∧
    ∃ st d v, execDecodeAtr bs s = .next (respond st d { loadRaw bs (begin .decodeAtr s) with decd := v }) := by
  unfold execDecodeAtr
  split
  · rename_i ha
    simp only [accepts, Bool.and_eq_true, Bool.not_eq_true', decide_eq_true_eq] at ha
    refine .inr ⟨ha.1, ha.2, ?_⟩
    unfold runDecodeAtr
    split <;> exact ⟨_, _, _, rfl⟩
  · exact .inl rfl

/-! ## The commands that last -/

/-- A reset command is refused, or accepted at rest in a session, or in a transfer, which is dropped first; a warm one
at rest with the card running only (R107, R162, R296). -/
theorem resetCommand_accepted (k : ResetKind) (s : State) :
    resetCommand k s = s ∨
    (s.busy = false ∧ (s.sessState = .ready ∨ s.sessState = .active) ∧ (k = .warm → cardRunning s = true) ∧
      resetCommand k s = acceptReset k s) ∨
    (s.busy = true ∧ s.curOp = .transfer ∧ resetCommand k s = acceptReset k (dropTransfer s)) := by
  rcases resetCommand_cases k s with ⟨-, h⟩ | ⟨-, ht, h⟩ | ⟨ha, ht, h⟩
  · exact .inl h
  · simp only [transferInFlight, Bool.and_eq_true, beq_iff_eq] at ht
    exact .inr (.inr ⟨ht.1, ht.2, h⟩)
  · refine .inr (.inl ?_)
    cases hb : s.busy <;> cases k <;> simp_all [accepts, resetOp, sessionResettable]

/-- `TRANSFER` is refused, or accepted in `S_ACTIVE` with P3 data bytes or none (R105 c, R107, R241). -/
theorem execTransfer_cases (cla ins p1 p2 p3 : Byte) (data : List Byte) {i : Instr} (s : State)
    (hi : i = .transfer cla ins p1 p2 p3 ∨ i = .transferD cla ins p1 p2 p3 data) :
    exec i s = .next s ∨
    s.busy = false ∧ s.sessState = .active ∧
    ∃ dp bs, bs.length = (if dp then p3.toNat else 0) ∧
      exec i s = .next (acceptTransfer { cla := cla, ins := ins, p1 := p1, p2 := p2, p3 := p3 } dp bs s) := by
  rcases hi with rfl | rfl
  · show execTransfer cla ins p1 p2 p3 s = _ ∨ _ ∧ _ ∧ ∃ dp bs, _ ∧ execTransfer cla ins p1 p2 p3 s = _
    unfold execTransfer
    split
    · rename_i ha
      simp only [accepts, Bool.and_eq_true, Bool.not_eq_true', beq_iff_eq] at ha
      exact .inr ⟨ha.1, ha.2, false, [], rfl, rfl⟩
    · exact .inl rfl
  · show execTransferD cla ins p1 p2 p3 data s = _ ∨ _ ∧ _ ∧ ∃ dp bs, _ ∧ execTransferD cla ins p1 p2 p3 data s = _
    unfold execTransferD
    split
    · rename_i ha
      simp only [accepts, Bool.and_eq_true, Bool.not_eq_true', beq_iff_eq] at ha
      exact .inr ⟨ha.1.1, ha.1.2, true, data, by simpa using ha.2, rfl⟩
    · exact .inl rfl

end Sys2Proof.Machine
end

section
/-! The configuration, the time and the retry budget in every state: a walk over the rows of the opcode table, once for
the three. -/

namespace Sys2Proof.Machine

/-- The configuration and the timing derived from it (R25, R30). -/
def sessionTiming (s : State) : Option SessionConfig × BitVec 8 × Option (BitVec 16) × Option (BitVec 9) :=
  (s.cfg, s.cfgMaxIterations, s.baudDiv, s.guardTicks)

theorem retryOk_iff (s : State) : retryOk s = true ↔ s.char = .fresh ∨ s.retry ≤ s.cfgMaxIterations := by
  simp [retryOk]

/-- A step that leaves the configuration (R31), lets time go forward only (R46), and keeps the retry budget (R42). -/
structure Orderly (s t : State) : Prop where
  timing : sessionTiming t = sessionTiming s
  now : s.now ≤ t.now
  retry : retryOk s = true → retryOk t = true

theorem Orderly.refl (s : State) : Orderly s s := ⟨rfl, le_rfl, id⟩

theorem orderly_of_fresh {s t : State} (ht : sessionTiming t = sessionTiming s) (hn : s.now ≤ t.now)
    (hc : t.char = .fresh) : Orderly s t :=
  ⟨ht, hn, fun _ => (retryOk_iff t).mpr (.inl hc)⟩

theorem orderly_respond {s u : State} (st : Status) (d : Detail) (ht : sessionTiming u = sessionTiming s)
    (hn : s.now ≤ u.now) : Orderly s (respond st d u) :=
  orderly_of_fresh ht hn rfl

/-- What a line without a channel primitive does to the three: no time passes (log entry 17), and it ends outside a
micro-operation. -/
def Quiet (s t : State) : Prop := sessionTiming t = sessionTiming s ∧ t.now = s.now ∧ t.char = .fresh

theorem Quiet.orderly {s t : State} (h : Quiet s t) : Orderly s t := orderly_of_fresh h.1 h.2.1.ge h.2.2

theorem quiet_goto (td : Todo) (s : State) : Quiet s (goto td s) := ⟨rfl, rfl, rfl⟩

theorem quiet_of_outsideCapture {s t : State} (h : outsideCapture t = outsideCapture (goto .idle s)) : Quiet s t :=
  ⟨(congrArg sessionTiming h :), (congrArg State.now h :), (congrArg State.char h :)⟩

theorem quiet_of_outsideTransfer {s t : State} (h : outsideTransfer t = outsideTransfer (goto .idle s)) : Quiet s t :=
  ⟨(congrArg sessionTiming h :), (congrArg State.now h :), (congrArg State.char h :)⟩

theorem quiet_rxByte {b : Byte} {s t : State} (h : rxByte b s = .next t) : Quiet s t := by
  unfold rxByte at h
  split at h
  · cases h
    exact quiet_of_outsideCapture (atrByte_outside b s)
  · exact quiet_of_outsideTransfer (xferByte_outside h)
  · cases h
    exact quiet_goto _ s

theorem quiet_rxTimeout (s : State) : Quiet s (rxTimeout s) := by
  unfold rxTimeout
  split
  · exact quiet_of_outsideCapture (atrTimeout_outside s)
  all_goals exact quiet_goto _ s

theorem quiet_rxExhausted (s : State) : Quiet s (rxExhausted s) := by
  unfold rxExhausted
  split
  · exact quiet_of_outsideCapture (atrExhausted_outside s)
  all_goals exact quiet_goto _ s

/-- One more try: `retry` was below the budget, so its successor is within it, with no carry lost. -/
theorem succ_le_of_ne_of_le {n m : BitVec 8} (hne : n ≠ m) (hle : n ≤ m) : n + 1 ≤ m := by
  bv_omega

theorem orderly_execTxChar {b : Byte} {s t : State} (h : execTxChar b s = .next t) : Orderly s t := by
  rcases execTxChar_cases b s with e | e | ⟨n, hn, e⟩ <;> rw [e] at h <;> cases h
  · exact (quiet_of_outsideTransfer (sentByte_outside s)).orderly
  · exact orderly_of_fresh rfl le_rfl rfl
  · refine ⟨rfl, Nat.le_add_right _ _, fun hs => (retryOk_iff _).mpr (.inr ?_)⟩
    rcases hn with rfl | ⟨hchar, hne, rfl⟩
    · exact Nat.zero_le _
    · exact succ_le_of_ne_of_le hne (((retryOk_iff s).mp hs).resolve_left (by simp [hchar]))

theorem orderly_tryRecv (wait : Nat) (dl : Option Nat) {n : BitVec 8} {s : State}
    (hn : n = 0 ∨ s.char = .nacked ∧ n = s.retry) : Orderly s (tryRecv wait dl { s with retry := n }) := by
  rcases tryRecv_cases wait dl { s with retry := n } with e | e <;> rw [e]
  · exact Quiet.orderly (quiet_rxTimeout { s with retry := n })
  · refine ⟨rfl, Nat.le_add_right _ _, fun hs => (retryOk_iff _).mpr (.inr ?_)⟩
    rcases hn with rfl | ⟨hchar, rfl⟩
    · exact Nat.zero_le _
    · exact ((retryOk_iff s).mp hs).resolve_left (by simp [hchar])

theorem orderly_execRxChar {wait : Nat} {dl : Option Nat} {s t : State} (h : execRxChar wait dl s = .next t) :
    Orderly s t := by
  rcases execRxChar_cases wait dl s with ⟨b, e⟩ | e | e | ⟨b, hchar, hne, e⟩ | ⟨n, hn, e⟩ <;> rw [e] at h
  · exact (quiet_rxByte h).orderly
  all_goals cases h
  · exact (quiet_rxTimeout s).orderly
  · exact (quiet_rxExhausted s).orderly
  · refine ⟨rfl, Nat.le_add_right _ _, fun hs => (retryOk_iff _).mpr (.inr ?_)⟩
    exact succ_le_of_ne_of_le hne (((retryOk_iff s).mp hs).resolve_left (by simp [hchar]))
  · exact orderly_tryRecv wait dl hn

theorem orderly_captureAtr {b : Byte} {s t : State} (h : captureAtr b s = .next t) : Orderly s t :=
  (quiet_of_outsideCapture (captureAtr_outside h)).orderly

theorem orderly_acceptReset (k : ResetKind) {s u : State} (ht : sessionTiming u = sessionTiming s)
    (hn : s.now ≤ u.now) : Orderly s (acceptReset k u) :=
  orderly_of_fresh ht hn rfl

theorem orderly_resetCommand (k : ResetKind) (s : State) : Orderly s (resetCommand k s) := by
  rcases resetCommand_accepted k s with h | ⟨-, -, -, h⟩ | ⟨-, -, h⟩ <;> rw [h]
  · exact .refl s
  · exact orderly_acceptReset k rfl le_rfl
  · exact orderly_acceptReset k rfl le_rfl

theorem sessionTiming_failAtr (s : State) : sessionTiming (failAtr s) = sessionTiming s := by
  unfold failAtr
  split <;> rfl

theorem now_failAtr (s : State) : (failAtr s).now = s.now := by
  unfold failAtr
  split <;> rfl

theorem orderly_execStatusOk {s t : State} (h : execStatusOk s = .next t) : Orderly s t := by
  cases h
  have ht : sessionTiming (retireCommand s) = sessionTiming s ∧ (retireCommand s).now = s.now := by
    unfold retireCommand
    split <;> exact ⟨rfl, rfl⟩
  exact orderly_respond _ _ ht.1 ht.2.ge

/-- Every row but `INIT`. -/
theorem exec_orderly {i : Instr} {s t : State} (hi : ∀ c, i ≠ .init c) (h : exec i s = .next t) : Orderly s t := by
  cases i with
  | init c => exact absurd rfl (hi c)
  | deriveTiming d =>
    rcases execDeriveTiming_cases d s with e | ⟨-, ⟨b, g, e⟩ | e⟩ <;> cases e.symm.trans h
    · exact .refl s
    · exact orderly_respond _ _ rfl le_rfl
    · exact orderly_respond _ _ rfl le_rfl
  | decodeAtr bs =>
    rcases execDecodeAtr_cases bs s with e | ⟨-, -, st, d, v, e⟩ <;> cases e.symm.trans h
    · exact .refl s
    · exact orderly_respond _ _ rfl le_rfl
  | coldReset => cases h; exact orderly_resetCommand .cold s
  | warmReset => cases h; exact orderly_resetCommand .warm s
  | transfer cla ins p1 p2 p3 =>
    rcases execTransfer_cases cla ins p1 p2 p3 [] s (.inl rfl) with e | ⟨-, -, dp, bs, -, e⟩ <;>
      cases e.symm.trans h
    · exact .refl s
    · exact orderly_of_fresh rfl le_rfl rfl
  | transferD cla ins p1 p2 p3 data =>
    rcases execTransfer_cases cla ins p1 p2 p3 data s (.inr rfl) with e | ⟨-, -, dp, bs, -, e⟩ <;>
      cases e.symm.trans h
    · exact .refl s
    · exact orderly_of_fresh rfl le_rfl rfl
  | reservedOp0 _ => cases h; exact .refl s
  | reservedOp7 _ => cases h; exact .refl s
  | tpduHdr _ _ _ _ _ => exact (quiet_of_outsideTransfer (execTpduHdr_outside h)).orderly
  | procNull => cases h; exact (quiet_goto _ s).orderly
  | procAck _ => cases h; exact (quiet_of_outsideTransfer (ackReaction_outside s)).orderly
  | procAckInv _ => cases h; exact (quiet_of_outsideTransfer (ackReaction_outside s)).orderly
  | procSw1 sw1 => cases h; exact Quiet.orderly (quiet_goto _ { s with sw1 := some sw1 })
  | atrTsDirect => exact orderly_captureAtr h
  | atrTsInverse => exact orderly_captureAtr h
  | atrT0 _ _ => exact orderly_captureAtr h
  | atrTd _ _ => exact orderly_captureAtr h
  | atrTck _ => exact orderly_captureAtr h
  | txChar _ => exact orderly_execTxChar h
  | rxChar _ _ => exact orderly_execRxChar h
  | statusOk => exact orderly_execStatusOk h
  | statusConfigError => cases h; exact orderly_respond _ _ rfl le_rfl
  | statusNoCardResponse => cases h; exact orderly_respond _ _ rfl le_rfl
  | statusMalformedAtr _ => cases h; exact orderly_respond _ _ (sessionTiming_failAtr s) (now_failAtr s).ge
  | statusChecksumError => cases h; exact orderly_respond _ _ (sessionTiming_failAtr s) (now_failAtr s).ge
  | statusParityExhausted => cases h; exact orderly_respond _ _ rfl le_rfl
  | statusCardTimeout => cases h; exact orderly_respond _ _ rfl le_rfl
  | statusProtocolViolation => cases h; exact orderly_respond _ _ rfl le_rfl

/-- What an accepted `INIT` leaves of the three: time goes forward only, and no micro-operation is under way. -/
def InitOrderly (s t : State) : Prop := s.now ≤ t.now ∧ t.char = .fresh

theorem exec_init_orderly {c : CfgArg} {s t : State} (h : exec (.init c) s = .next t) :
    Orderly s t ∨ InitOrderly s t := by
  rcases execInit_cases c s with ⟨e, -⟩ | ⟨-, ⟨b, g, -, e⟩ | e⟩ <;> cases e.symm.trans h
  · exact .inl (.refl s)
  · exact .inr ⟨Nat.le_add_right _ _, rfl⟩
  · exact .inr ⟨le_rfl, rfl⟩

theorem exec_orderly_or {i : Instr} {s t : State} (h : exec i s = .next t) :
    Orderly s t ∨ (∃ c, i = .init c) ∧ InitOrderly s t := by
  by_cases hi : ∃ c, i = .init c
  · obtain ⟨c, rfl⟩ := hi
    exact (exec_init_orderly h).imp_right fun h => ⟨⟨c, rfl⟩, h⟩
  · exact .inl (exec_orderly (fun c e => hi ⟨c, e⟩) h)

theorem runContact_orderly (c : Contact) (s : State) : Orderly s (runContact c s) := by
  refine ⟨by cases c <;> rfl, ?_, fun h => ?_⟩
  · cases c
    case vccWait => exact (waitUntil_now_ge _ _).2
    case holdWait => exact (waitUntil_now_ge _ _).2
    case released => exact le_rfl
    case openWindow => exact le_rfl
    all_goals exact Nat.le_add_right _ _
  · cases c
    case released => rfl
    case openWindow => rfl
    all_goals exact h

/-- The step runs a row `INIT`, presented or, in a state no run has, in flight. -/
def RunsInit (s : State) : Prop :=
  (∃ bs c, fetch s = .command bs ∧ decodeCommand bs = .ok (.init c, [])) ∨ ∃ c, s.todo = .micro (.init c)

theorem runFlight_orderly {s t : State} (h : runFlight s.todo s = .next t) :
    Orderly s t ∨ RunsInit s ∧ InitOrderly s t := by
  cases htd : s.todo with
  | idle => rw [htd] at h; cases h; exact .inl ⟨rfl, Nat.le_add_right _ _, id⟩
  | contact c => rw [htd] at h; cases h; exact .inl (runContact_orderly c s)
  | flush => rw [htd] at h; cases h; exact .inl ⟨rfl, Nat.le_add_right _ _, id⟩
  | capture b => rw [htd] at h; exact .inl (orderly_captureAtr h)
  | micro i =>
    rw [htd] at h
    refine (exec_orderly_or h).imp_right fun ⟨⟨c, hi⟩, ho⟩ => ⟨.inr ⟨c, ?_⟩, ho⟩
    rw [htd, hi]

/-- A step is a hardware reset, is orderly, or runs `INIT`. -/
theorem step_orderly {s t : State} (h : step s = .next t) :
    (fetch s = .hardwareReset ∧ t = hardwareReset (takeMove s)) ∨ Orderly s t ∨ RunsInit s ∧ InitOrderly s t := by
  rcases step_cases s with ⟨hf, e⟩ | ⟨bs, hf, e⟩ | ⟨-, -, e⟩ <;> rw [e] at h
  · cases h
    exact .inl ⟨hf, rfl⟩
  · rcases runCommand_cases bs (takeMove s) with ⟨i, hd, e'⟩ | e' <;> rw [e'] at h
    · rcases exec_orderly_or h with ⟨ht, hn, hr⟩ | ⟨⟨c, rfl⟩, ho⟩
      · exact .inr (.inl ⟨ht, hn, hr⟩)
      · exact .inr (.inr ⟨.inl ⟨bs, c, hf, hd⟩, ho⟩)
    · cases h
      exact .inr (.inl ⟨rfl, le_rfl, id⟩)
  · obtain ⟨u, hu, rfl⟩ := holdShownResult_eq_next h
    rcases runFlight_orderly hu with ⟨ht, hn, hr⟩ | ho
    · exact .inr (.inl ⟨ht, hn, hr⟩)
    · exact .inr (.inr ho)

/-- Settles O51: the only step that is not orderly, but for a hardware reset, runs `INIT`. -/
theorem configurationImmutable : Obligations.ConfigurationImmutable := by
  intro s t h hreset hcmd hflight
  rcases step_orderly h with ⟨hf, -⟩ | ho | ⟨hinit, -⟩
  · exact absurd hf hreset
  · have ht := ho.timing
    simp only [sessionTiming, Prod.mk.injEq] at ht
    exact ht
  · rcases hinit with ⟨bs, c, hf, hd⟩ | ⟨c, htd⟩
    · exact absurd hd (hcmd bs c hf)
    · exact absurd htd (hflight c)

/-- Settles O53: a try is made with a count of 0 or within the budget, and every other line leaves the micro-operation or
leaves the count. -/
theorem retryBudgetKept : Obligations.RetryBudgetKept := by
  intro s t hs h
  rcases step_orderly h with ⟨-, rfl⟩ | ho | ⟨-, -, hchar⟩
  · rfl
  · exact ho.retry hs
  · exact (retryOk_iff t).mpr (.inl hchar)

/-- Settles O50. -/
theorem timeNeverDecreases : Obligations.TimeNeverDecreases := by
  intro s t h hreset
  rcases step_orderly h with ⟨hf, -⟩ | ho | ⟨-, hnow, -⟩
  · exact absurd hf hreset
  · exact ho.now
  · exact hnow

end Sys2Proof.Machine
end

section
/-! What a safe state has next: with nothing in flight no line, in a card reset a line of the sequencer, in a transfer a
line of the Transfer Engine, each with what the rules say of the state there. A proof about the steps of safe states
splits along these instead of along the opcode table. -/

namespace Sys2Proof.Machine

theorem todoFits_of_safe {s : State} (h : s.safe = true) : todoFits s = true := by
  simp only [State.safe, Bool.and_eq_true] at h
  obtain ⟨⟨⟨-, htodo⟩, -⟩, -⟩ := h
  exact htodo

theorem owner_of_safe {s : State} (h : s.safe = true) : s.owner = ownerOf s.curOp ∧ s.busy = (s.curOp != .none) := by
  simp only [State.safe, commandOk, Bool.and_eq_true, beq_iff_eq] at h
  obtain ⟨⟨⟨⟨⟨-, hcommand⟩, -⟩, -⟩, -⟩, -⟩ := h
  obtain ⟨⟨⟨⟨⟨⟨⟨hbusy, howner⟩, -⟩, -⟩, -⟩, -⟩, -⟩, -⟩ := hcommand
  exact ⟨howner, hbusy⟩

/-- In a safe state nothing is in flight, a card reset, or a transfer. -/
theorem inFlight_cases {s : State} (h : s.safe = true) :
    AtRest s ∨ InReset s ∨ ∃ hd c, InTransfer hd c s := by
  cases ho : s.owner with
  | rs => exact .inr (.inl (inReset_of_safe h ho))
  | xfer => exact .inr (.inr (inTransfer_of_safe h ho))
  | none =>
    refine .inl (atRest_of_safe h ?_)
    obtain ⟨howner, hbusy⟩ := owner_of_safe h
    simp only [State.safe, commandOk, Bool.and_eq_true] at h
    cases hop : s.curOp <;> simp_all [ownerOf, lastsOn]

/-- The sequencer awaits a character or has one in hand. -/
theorem receiving_iff (s : State) : receiving s = true ↔
    s.owner = .rs ∧ s.sessState = .ready ∧ s.atrLen.toNat < Config.atrMax ∧ pinsAre true true true s = true ∧
    s.rsState = (if s.atrLen = 0 then .atrWindowOpen else .atrCaptured) ∧
    (s.rsState = .atrWindowOpen → s.atrDeadline.isSome = true) := by
  simp only [receiving, Bool.and_eq_true, beq_iff_eq, decide_eq_true_eq, Bool.or_eq_true, bne_iff_ne, ne_eq, and_assoc,
    imp_iff_not_or]

/-- The sequencer's lines, with what holds where each is next. -/
inductive ResetLine (s : State) : Todo → Prop
  | contact {c : Contact} (sess : s.sessState = .ready) (empty : s.atrLen = 0) (fits : contactFits c s = true) :
      ResetLine s (.contact c)
  | capture {td : Todo} {b : Byte} (run : runFlight td s = captureAtr b s) (room : receiving s = true) :
      ResetLine s td
  | rxChar {wait : Nat} {dl : Option Nat} (pos : 1 ≤ wait) (room : receiving s = true) :
      ResetLine s (.micro (.rxChar wait dl))
  | statusOk (sess : s.sessState = .active) : ResetLine s (.micro .statusOk)
  | noCard (sess : s.sessState = .ready) : ResetLine s (.micro .statusNoCardResponse)
  | fails {td : Todo} {st : Status} {d : Detail} (run : runFlight td s = .next (respond st d (failAtr s)))
      (pins : pinsAre true true true s = true) : ResetLine s td

theorem resetLine_of_safe {s : State} (h : s.safe = true) (f : InReset s) : ResetLine s s.todo := by
  have ht := todoFits_of_safe h
  have hx := f.xfer
  have ho := f.owner
  have hl : listening s = false := by simp [listening, hx]
  unfold todoFits at ht
  cases htd : s.todo with
  | idle => simp [htd, f.busy] at ht
  | flush => simp [htd, hx] at ht
  | contact c =>
    simp only [htd, Bool.and_eq_true, beq_iff_eq] at ht
    obtain ⟨⟨⟨-, hs⟩, he⟩, hc⟩ := ht
    exact .contact hs he hc
  | capture b => exact .capture rfl (by simpa [htd] using ht)
  | micro i =>
    simp only [htd] at ht
    cases i <;> simp only [microFits, hx, ho, hl] at ht
    case atrTsDirect => exact .capture rfl ht
    case atrTsInverse => exact .capture rfl ht
    case atrT0 => exact .capture rfl ht
    case atrTd => exact .capture rfl ht
    case atrTck => exact .capture rfl ht
    case rxChar =>
      simp only [Bool.or_false, Bool.and_eq_true, decide_eq_true_eq] at ht
      exact .rxChar ht.1 ht.2
    case statusOk => exact .statusOk (by simp at ht; exact ht.1)
    case statusNoCardResponse => exact .noCard (by simp at ht; exact ht.1.1.1)
    case statusMalformedAtr => exact .fails rfl (by simp at ht; exact ht.2)
    case statusChecksumError => exact .fails rfl (by simp at ht; exact ht.2)
    all_goals simp at ht

/-- The Transfer Engine's lines, with what holds where each is next. -/
inductive TransferLine (s : State) : Todo → Prop
  | flush (phase : s.xferState = .sendHeader) : TransferLine s .flush
  | header {h : Header} (phase : s.xferState = .sendHeader) : TransferLine s (.micro (headerInstr h))
  | null (phase : s.xferState = .awaitProcedureByte) : TransferLine s (.micro .procNull)
  | ack {td : Todo} (run : runFlight td s = .next (ackReaction s)) (phase : s.xferState = .awaitProcedureByte)
      (sw1 : s.sw1 = none) : TransferLine s td
  | sw1 {b : Byte} (phase : s.xferState = .awaitProcedureByte) : TransferLine s (.micro (.procSw1 b))
  | txChar {b : Byte} (turn : s.xferState = .sendHeader ∧ s.idx.toNat < Config.hdrLen ∨
      s.xferState = .dataOut ∧ s.idx.toNat < dataCount s) : TransferLine s (.micro (.txChar b))
  | rxChar {wait : Nat} {dl : Option Nat} (pos : 1 ≤ wait) (turn : listening s = true) :
      TransferLine s (.micro (.rxChar wait dl))
  | statusOk (phase : s.xferState = .complete) : TransferLine s (.micro .statusOk)
  | fails {td : Todo} {st : Status} (run : runFlight td s = .next (raiseTransferError st s)) : TransferLine s td

theorem transferLine_of_safe {s : State} {hd : Header} {c : XCase} (h : s.safe = true) (f : InTransfer hd c s) :
    TransferLine s s.todo := by
  have ht := todoFits_of_safe h
  have ho := f.owner
  have hr : receiving s = false := by simp [receiving, ho]
  unfold todoFits at ht
  cases htd : s.todo with
  | idle => simp [htd, f.busy] at ht
  | flush => exact .flush (by simpa [htd] using ht)
  | contact c => simp [htd, ho] at ht
  | capture b => simp [htd, hr] at ht
  | micro i =>
    simp only [htd] at ht
    cases i <;> simp only [microFits, ho, hr, Bool.and_eq_true, Bool.or_eq_true, beq_iff_eq, decide_eq_true_eq] at ht
    case tpduHdr cla ins p1 p2 p3 => exact .header (h := ⟨cla, ins, p1, p2, p3⟩) ht.1
    case procNull => exact .null ht.1
    case procAck => exact .ack rfl ht.1 ht.2
    case procAckInv => exact .ack rfl ht.1 ht.2
    case procSw1 => exact .sw1 ht.1
    case txChar => exact .txChar ht
    case rxChar => exact .rxChar ht.1 (by simpa using ht.2)
    case statusOk => exact .statusOk (by simpa using ht)
    case statusParityExhausted => exact .fails rfl
    case statusCardTimeout => exact .fails rfl
    case statusProtocolViolation => exact .fails rfl
    all_goals simp at ht

/-- With nothing in flight no line is next. -/
theorem todo_of_atRest {s : State} (h : s.safe = true) (f : AtRest s) : s.todo = .idle := by
  have ht := todoFits_of_safe h
  have hx := f.xfer
  have ho := f.owner
  have hr : receiving s = false := by simp [receiving, ho]
  have hl : listening s = false := by simp [listening, hx]
  unfold todoFits at ht
  cases htd : s.todo with
  | idle => rfl
  | flush => simp [htd, hx] at ht
  | contact c => simp [htd, ho] at ht
  | capture b => simp [htd, hr] at ht
  | micro i =>
    simp only [htd] at ht
    cases i <;> simp [microFits, hx, ho, hr, hl] at ht

end Sys2Proof.Machine
end

section
/-! Safe states stay safe: the commands, the sequencer's lines, the Transfer Engine's lines. Each part of a safe state is
rebuilt through `AtRest`, `InReset` or `InTransfer`; what remains is that the next line fits. -/

namespace Sys2Proof.Machine

theorem safe_takeMove (s : State) : (takeMove s).safe = s.safe := rfl

theorem safe_holdShown (s t : State) : (holdShown s t).safe = t.safe := rfl

theorem safe_hardwareReset (s : State) : (hardwareReset s).safe = true := rfl

/-- Settles O54. -/
theorem resetIsSafe : Obligations.ResetIsSafe :=
  ⟨rfl, reset_buffersCanonical, (retryOk_iff _).mpr (.inl rfl)⟩

/-- The result goes on to a safe state. -/
def GoesOnSafe (r : Result) : Prop := ∃ t, r = .next t ∧ t.safe = true

/-! ## At rest after a response -/

theorem AtRest.safe_respond {st : Status} {d : Detail} {s : State} (f : AtRest (respond st d s)) :
    (respond st d s).safe = true :=
  f.safe rfl

theorem AtRest.respond {s : State} (f : AtRest s) (st : Status) (d : Detail) : AtRest (respond st d s) :=
  { f with owner := rfl, busy := rfl, op := rfl }

/-- The end of a card reset that leaves the session as it is. -/
theorem InReset.respond {s : State} (f : InReset s) (st : Status) (d : Detail) : AtRest (respond st d s) where
  owner := rfl
  busy := rfl
  op := rfl
  xfer := f.xfer
  hdr := f.hdr
  xcase := f.xcase
  doutLen := f.doutLen
  valid := f.valid
  view := f.view
  cfg := by rcases f.sess with h | h <;> simp [h, f.cfg]
  baud := f.baud.trans f.cfg.symm
  guard := f.guard.trans f.cfg.symm
  baudPos := f.baudPos
  pins := fun h => f.pins (h.resolve_right (by rcases f.sess with e | e <;> simp [e]))
  atr := f.atr
  dout := f.dout
  rsp := f.rsp
  raw := f.raw
  atrRoom := f.atrRoom
  rawRoom := f.rawRoom

theorem InReset.op_ne_transfer {s : State} (f : InReset s) : s.curOp ≠ .transfer := by
  rw [f.op]
  cases s.rsKind <;> nofun

/-- Success of a reset has nothing left to clear (R181). -/
theorem InReset.retireCommand {s : State} (f : InReset s) : retireCommand s = s := by
  unfold Machine.retireCommand
  cases hk : s.rsKind <;> rw [f.op, hk] <;> rfl

theorem retireCommand_of_transfer {s : State} (h : s.curOp = .transfer) : retireCommand s = retireTransfer s := by
  simp only [retireCommand, h]

theorem failAtr_of_reset {s : State} {k : ResetKind} (h : s.curOp = resetOp k) :
    failAtr s = { s with sessState := .failed, atrValid := false, atrd := none } := by
  unfold failAtr
  cases k <;> rw [h] <;> rfl

/-- The end of a card reset that fails the session (R289); the contacts are up (R183, R185). -/
theorem InReset.respond_failAtr {s : State} (f : InReset s) (hp : pinsAre true true true s = true) (st : Status)
    (d : Detail) : AtRest (Machine.respond st d (failAtr s)) := by
  rw [failAtr_of_reset f.op]
  exact { f.respond st d with valid := rfl, view := rfl, cfg := f.cfg, pins := fun _ => hp }

/-- The end of a transfer that fails (R291). -/
theorem InTransfer.raiseTransferError {hd : Header} {c : XCase} {s : State} (f : InTransfer hd c s) (st : Status) :
    AtRest (raiseTransferError st s) where
  owner := rfl
  busy := rfl
  op := rfl
  xfer := rfl
  hdr := rfl
  xcase := rfl
  doutLen := rfl
  valid := f.valid.trans (by simp [Machine.raiseTransferError, f.sess])
  view := f.view.trans f.valid.symm
  cfg := f.cfg.trans (by simp [Machine.raiseTransferError, f.sess])
  baud := f.baud.trans f.cfg.symm
  guard := f.guard.trans f.cfg.symm
  baudPos := f.baudPos
  pins := fun _ => f.pins
  atr := f.atr
  dout := rfl
  rsp := rfl
  raw := f.raw
  atrRoom := f.atrRoom
  rawRoom := f.rawRoom

/-- The end of a transfer with its response kept (R251). -/
theorem InTransfer.respond_retire {hd : Header} {c : XCase} {s : State} (f : InTransfer hd c s)
    (hx : s.xferState = .complete) (st : Status) (d : Detail) :
    AtRest (Machine.respond st d (retireTransfer s)) := by
  have hrsp : filledBelow s.rsp s.rspLen.toNat = true := by simpa [rspFill, hx] using f.rsp
  have e := f.raiseTransferError st
  exact { owner := rfl, busy := rfl, op := rfl, xfer := rfl, hdr := rfl, xcase := rfl, doutLen := rfl, valid := e.valid,
          view := e.view, cfg := e.cfg, baud := e.baud, guard := e.guard, baudPos := e.baudPos, pins := e.pins,
          atr := e.atr, dout := rfl, rsp := hrsp, raw := e.raw, atrRoom := e.atrRoom, rawRoom := e.rawRoom }

/-! ## The commands -/

/-- A divisor that `derive` gives is at least one cycle (R144). -/
theorem derive_ne_zero {fi : BitVec 16} {di : BitVec 8} {hz : BitVec 32} {tg : BitVec 8} {b : BitVec 16} {g : BitVec 9}
    (h : derive fi di hz tg = some (b, g)) : b ≠ 0 := by
  unfold derive at h
  split at h
  · cases h
  · rename_i hv
    cases h
    simp only [deriveInvalid, Config.divMin, Config.divMax, Bool.or_eq_true, not_or, decide_eq_true_eq] at hv
    obtain ⟨⟨⟨-, hmin⟩, hmax⟩, -⟩ := hv
    intro h0
    have := congrArg BitVec.toNat h0
    simp at this
    omega

theorem goesOnSafe_init {s : State} (h : s.safe = true) (c : CfgArg) : GoesOnSafe (exec (.init c) s) := by
  rcases execInit_cases c s with ⟨e, -⟩ | ⟨hb, e⟩
  · exact ⟨s, e, h⟩
  · have f := atRest_of_safe h hb
    rcases e with ⟨b, g, hd, e⟩ | e
    · refine ⟨_, e, AtRest.safe_respond ?_⟩
      exact { f with owner := rfl, busy := rfl, op := rfl, valid := rfl, view := rfl, cfg := rfl, baud := rfl,
                     guard := rfl, baudPos := fun h0 => derive_ne_zero hd (Option.some.inj h0),
                     pins := fun h => by simp [startSession, chApply] at h,
                     atr := filledBelow_nil, atrRoom := Nat.zero_le _ }
    · exact ⟨_, e, AtRest.safe_respond { f with owner := rfl, busy := rfl, op := rfl }⟩

theorem goesOnSafe_deriveTiming {s : State} (h : s.safe = true) (d : DtArg) :
    GoesOnSafe (exec (.deriveTiming d) s) := by
  rcases execDeriveTiming_cases d s with e | ⟨hb, e⟩
  · exact ⟨s, e, h⟩
  · have f := atRest_of_safe h hb
    rcases e with ⟨b, g, e⟩ | e <;>
      exact ⟨_, e, AtRest.safe_respond { f with owner := rfl, busy := rfl, op := rfl }⟩

theorem toNat_ofNat_of_le_atrMax {n : Nat} (h : n ≤ Config.atrMax) : (BitVec.ofNat 8 n).toNat = n := by
  rw [BitVec.toNat_ofNat]
  exact Nat.mod_eq_of_lt (by unfold Config.atrMax at h; omega)

theorem goesOnSafe_decodeAtr {s : State} (h : s.safe = true) (bs : List Byte) :
    GoesOnSafe (exec (.decodeAtr bs) s) := by
  rcases execDecodeAtr_cases bs s with e | ⟨hb, hl, st, d, v, e⟩
  · exact ⟨s, e, h⟩
  · have f := atRest_of_safe h hb
    have hn := toNat_ofNat_of_le_atrMax hl
    refine ⟨_, e, AtRest.safe_respond ?_⟩
    exact { f with owner := rfl, busy := rfl, op := rfl, rawRoom := hn.trans_le hl,
                   raw := (congrArg (filledBelow (memOfBytes bs)) hn).trans (filledBelow_memOfBytes bs) }

/-- A reset begins from what a response would leave at rest in a session. -/
theorem AtRest.acceptReset {s : State} {st : Status} {d : Detail} (f : AtRest (Machine.respond st d s))
    (hs : s.sessState ≠ .none) (k : ResetKind) : InReset (acceptReset k s) := by
  have hcfg : s.cfg.isSome = true := f.cfg.trans (by simpa using hs)
  exact { owner := rfl, busy := rfl, op := rfl, sess := .inl rfl, xfer := f.xfer, hdr := f.hdr, xcase := f.xcase,
          doutLen := f.doutLen, valid := rfl, view := rfl, cfg := hcfg, baud := f.baud.trans hcfg,
          guard := f.guard.trans hcfg, baudPos := f.baudPos, pins := (by intro h; cases h), atr := rfl, dout := f.dout,
          rsp := f.rsp, raw := f.raw, atrRoom := Nat.zero_le _, rawRoom := f.rawRoom }

/-- The first line of a reset fits: a warm one with the card running. -/
theorem todoFits_acceptReset {k : ResetKind} {s : State} (h : k = .warm → cardRunning s = true) :
    todoFits (acceptReset k s) = true := by
  cases k with
  | cold => rfl
  | warm => exact h rfl

theorem safe_resetCommand {s : State} (h : s.safe = true) (k : ResetKind) : (resetCommand k s).safe = true := by
  rcases resetCommand_accepted k s with e | ⟨hb, hs, hw, e⟩ | ⟨hb, hop, e⟩ <;> rw [e]
  · exact h
  · have f := (atRest_of_safe h hb).respond .ok .none
    exact (f.acceptReset (by rcases hs with e | e <;> simp [e]) k).safe (todoFits_acceptReset hw)
  · obtain ⟨howner, -⟩ := owner_of_safe h
    obtain ⟨hd, c, f⟩ := inTransfer_of_safe h (by rw [howner, hop]; rfl)
    have hp := f.pins
    simp only [pinsAre, Bool.and_eq_true, beq_iff_eq] at hp
    have hr : cardRunning (dropTransfer s) = true := by simp [cardRunning, hp]
    have g := f.raiseTransferError .ok
    exact (AtRest.acceptReset g (by simp [f.sess]) k).safe (todoFits_acceptReset fun _ => hr)

theorem caseOf_fits (dp : Bool) (p3 : Byte) {bs : List Byte} (h : bs.length = if dp then p3.toNat else 0) :
    (caseOf dp p3 == .case1) = (p3 == 0) ∧
    BitVec.ofNat 8 bs.length = if caseOf dp p3 = .case2 then p3 else 0 := by
  unfold caseOf
  by_cases h0 : p3 = 0
  · cases dp <;> simp [h, h0]
  · cases dp <;> simp_all

theorem AtRest.acceptTransfer {s : State} (f : AtRest s) (hs : s.sessState = .active) (h : Header) (dp : Bool)
    {bs : List Byte} (hl : bs.length = if dp then h.p3.toNat else 0) :
    InTransfer h (caseOf dp h.p3) (acceptTransfer h dp bs s) := by
  obtain ⟨hcase, hlen⟩ := caseOf_fits dp h.p3 hl
  have hvalid : s.atrValid = true := by simp [f.valid, hs]
  have hcfg : s.cfg.isSome = true := by simp [f.cfg, hs]
  have hn : (BitVec.ofNat 8 bs.length).toNat = bs.length := by
    rw [BitVec.toNat_ofNat, hl]
    split
    · exact Nat.mod_eq_of_lt h.p3.isLt
    · rfl
  exact { owner := rfl, busy := rfl, op := rfl, sess := hs, hdr := rfl, xcase := rfl, deadline := rfl,
          fits := by simp [transferFits, Machine.acceptTransfer, hcase, hlen], valid := hvalid,
          view := f.view.trans hvalid, cfg := hcfg, baud := f.baud.trans hcfg, guard := f.guard.trans hcfg,
          baudPos := f.baudPos, pins := f.pins (.inl hs), atr := f.atr,
          dout := (congrArg (filledBelow (memOfBytes bs)) hn).trans (filledBelow_memOfBytes bs), rsp := rfl,
          raw := f.raw, atrRoom := f.atrRoom, rawRoom := f.rawRoom }

theorem goesOnSafe_transfer {s : State} (h : s.safe = true) {cla ins p1 p2 p3 : Byte} {data : List Byte} {i : Instr}
    (hi : i = .transfer cla ins p1 p2 p3 ∨ i = .transferD cla ins p1 p2 p3 data) : GoesOnSafe (exec i s) := by
  rcases execTransfer_cases cla ins p1 p2 p3 data s hi with e | ⟨hb, hs, dp, bs, hl, e⟩
  · exact ⟨s, e, h⟩
  · exact ⟨_, e, ((atRest_of_safe h hb).acceptTransfer hs _ dp hl).safe rfl⟩

theorem goesOnSafe_command {s : State} (h : s.safe = true) {i : Instr} (hi : i.isCommand = true) :
    GoesOnSafe (exec i s) := by
  cases i with
  | init c => exact goesOnSafe_init h c
  | deriveTiming d => exact goesOnSafe_deriveTiming h d
  | coldReset => exact ⟨_, rfl, safe_resetCommand h .cold⟩
  | warmReset => exact ⟨_, rfl, safe_resetCommand h .warm⟩
  | transfer => exact goesOnSafe_transfer h (data := []) (.inl rfl)
  | transferD => exact goesOnSafe_transfer h (.inr rfl)
  | decodeAtr bs => exact goesOnSafe_decodeAtr h bs
  | reservedOp0 => exact ⟨s, rfl, h⟩
  | reservedOp7 => exact ⟨s, rfl, h⟩
  | _ => cases hi

theorem goesOnSafe_runCommand {s : State} (h : s.safe = true) (bs : List Byte) : GoesOnSafe (runCommand bs s) := by
  rcases runCommand_cases bs s with ⟨i, hd, e⟩ | e <;> rw [e]
  · exact goesOnSafe_command h (isCommand_of_decodeCommand hd)
  · exact ⟨s, rfl, h⟩

end Sys2Proof.Machine
end

section
/-! The lines of a card reset go on to safe states. -/

namespace Sys2Proof.Machine

/-- The time, the oracle and the place in the pseudocode are no part of what a reset in flight says. -/
theorem InReset.flow {s : State} (f : InReset s) (now tick : Nat) (retry : BitVec 8) (td : Todo) (ch : CharPhase)
    (mid : Bool) (history : List Event) (replies : List Reply) :
    InReset { s with now := now, tick := tick, retry := retry, todo := td, char := ch, midStep := mid,
                     history := history, replies := replies } :=
  { f with }

theorem InReset.goto {s : State} (f : InReset s) (td : Todo) : InReset (goto td s) := { f with }

/-! ## The contacts (R164 to R171) -/

theorem InReset.runContact {s : State} (f : InReset s) (hs : s.sessState = .ready) (c : Contact) :
    InReset (runContact c s) := by
  have hp : s.sessState ≠ .active := by simp [hs]
  cases c <;> exact { f with pins := fun h => absurd h hp }

/-- Each line leaves the contacts and `rs_state` as the next one wants them. -/
theorem todoFits_runContact {s : State} {c : Contact} (f : InReset s) (hs : s.sessState = .ready) (he : s.atrLen = 0)
    (hc : contactFits c s = true) : todoFits (runContact c s) = true := by
  have ho := f.owner
  cases c <;>
    simp only [contactFits, pinsAre, Bool.and_eq_true, beq_iff_eq, Bool.not_eq_true'] at hc <;>
    simp [runContact, todoFits, contactFits, microFits, receiving, pinsAre, chRst, chClk, chVcc, chFlush, waitUntil, ho,
      hs, he, hc]

theorem goesOnSafe_runContact {s : State} {c : Contact} (f : InReset s) (hs : s.sessState = .ready) (he : s.atrLen = 0)
    (hc : contactFits c s = true) : GoesOnSafe (runFlight (.contact c) s) :=
  ⟨_, rfl, (f.runContact hs c).safe (todoFits_runContact f hs he hc)⟩

/-! ## The wait for a character -/

/-- An etu is at least one cycle in a session (R144), so a wait of some etu is one too. -/
theorem one_le_cycles {s : State} {n : Nat} (hn : 1 ≤ n) (hb : s.baudDiv.isSome = true) (h0 : s.baudDiv ≠ some 0) :
    1 ≤ cycles n s := by
  obtain ⟨b, hb⟩ := Option.isSome_iff_exists.mp hb
  have hne : b.toNat ≠ 0 := fun h => h0 (by rw [hb, BitVec.eq_of_toNat_eq (y := 0) h])
  rw [cycles, readBaudDiv_of_some hb]
  exact Nat.mul_pos hn (Nat.pos_of_ne_zero hne)

theorem todoFits_rxChar_of_receiving {s : State} {wait : Nat} {dl : Option Nat} (htd : s.todo = .micro (.rxChar wait dl))
    (hw : 1 ≤ wait) (hr : receiving s = true) : todoFits s = true := by
  simp [todoFits, htd, microFits, hw, hr]

/-! ## The capture (R176 to R181) -/

/-- The sequencer's registers after the append. -/
def appendAtr (b : Byte) (s : State) : State :=
  { s with atr := memWrite s.atr s.atrLen.toNat b, atrLen := s.atrLen + 1, rsState := .atrCaptured }

theorem captureAtr_of_room {b : Byte} {s : State} (h : s.atrLen.toNat < Config.atrMax) :
    captureAtr b s = .next (atrProgress (appendAtr b s)) := by
  simp only [captureAtr, memStore, if_pos h, appendAtr]

theorem toNat_atrLen_succ {s : State} (h : s.atrLen.toNat < Config.atrMax) :
    (s.atrLen + 1).toNat = s.atrLen.toNat + 1 := by
  unfold Config.atrMax at h
  bv_omega

theorem InReset.appendAtr {s : State} (f : InReset s) (h : s.atrLen.toNat < Config.atrMax) (b : Byte) :
    InReset (appendAtr b s) := by
  have hn := toNat_atrLen_succ h
  exact { f with atr := (congrArg (filledBelow _) hn).trans (filledBelow_memWrite b f.atr),
                 atrRoom := hn.trans_le h }

theorem safe_malformed {s : State} (f : InReset s) (hs : s.sessState = .ready) (hr : s.rsState = .atrCaptured)
    (hp : pinsAre true true true s = true) (d : Detail) :
    (goto (.micro (.statusMalformedAtr d)) s).safe = true := by
  refine (f.goto _).safe ?_
  simpa [todoFits, microFits, pinsAre, f.owner, hs, hr] using hp

/-- The progress test after an append ends the reset, fails it, or awaits the next character, for which there is room. -/
theorem safe_atrProgress {s : State} (f : InReset s) (hs : s.sessState = .ready) (hr : s.rsState = .atrCaptured)
    (hp : pinsAre true true true s = true) (hn : s.atrLen ≠ 0) : (atrProgress s).safe = true := by
  have ho := f.owner
  rcases atrProgress_cases s with ⟨v, -, e⟩ | ⟨r, -, hlt, e⟩ | ⟨d, e⟩ | ⟨-, e⟩ <;> rw [e]
  · refine InReset.safe { f with sess := .inr rfl, valid := rfl, view := rfl, pins := fun _ => hp } ?_
    simp [todoFits, microFits, ho, hr]
  · have hwait := one_le_cycles Config.atrCharTimeoutEtu.pos f.baud f.baudPos
    refine (f.goto _).safe (todoFits_rxChar_of_receiving rfl hwait ?_)
    rw [receiving_iff]
    exact ⟨ho, hs, hlt, hp, hr.trans (if_neg hn).symm, fun h => by cases hr.symm.trans h⟩
  · exact safe_malformed f hs hr hp d
  · refine (f.goto _).safe ?_
    simpa [todoFits, microFits, pinsAre, ho, hs, hr] using hp

theorem goesOnSafe_captureAtr {s : State} (f : InReset s) (h : receiving s = true) (b : Byte) :
    GoesOnSafe (captureAtr b s) := by
  obtain ⟨-, hs, hroom, hp, -, -⟩ := (receiving_iff s).mp h
  refine ⟨_, captureAtr_of_room hroom, safe_atrProgress (f.appendAtr hroom b) hs rfl hp fun h0 => ?_⟩
  have := congrArg BitVec.toNat (show s.atrLen + 1 = 0 from h0)
  rw [toNat_atrLen_succ hroom] at this
  simp at this

/-! ## The results of a reception -/

/-- The row of an ATR character's format wants what the wait for it did. -/
theorem microFits_of_decodeAtrByte {role : AtrRole} {b : Byte} {i : Instr} (h : decodeAtrByte role b = .ok i)
    (s : State) : microFits i s = receiving s := by
  unfold decodeAtrByte at h
  split at h <;> (try split_ifs at h) <;> cases h <;> rfl

/-- A late first character, or none: the window is over with no character captured (R174). -/
theorem safe_noCard {s : State} (f : InReset s) (h : receiving s = true) (hopen : s.rsState = .atrWindowOpen) :
    (goto (.micro .statusNoCardResponse) { s with rsState := .atrTimeout }).safe = true := by
  obtain ⟨ho, hs, -, hp, hr, -⟩ := (receiving_iff s).mp h
  have he : s.atrLen = 0 := by
    by_contra hne
    rw [if_neg hne, hopen] at hr
    cases hr
  refine InReset.safe { f with } ?_
  simpa [todoFits, microFits, pinsAre, ho, hs, he] using hp

theorem safe_atrTimeout {s : State} (f : InReset s) (h : receiving s = true) : (atrTimeout s).safe = true := by
  obtain ⟨-, hs, -, hp, hr, -⟩ := (receiving_iff s).mp h
  unfold atrTimeout
  split_ifs at hr <;> rw [hr]
  · exact safe_noCard f h hr
  · exact safe_malformed f hs hr hp .truncated

theorem safe_atrExhausted {s : State} (f : InReset s) (h : receiving s = true) : (atrExhausted s).safe = true := by
  obtain ⟨-, hs, -, hp, -, -⟩ := (receiving_iff s).mp h
  exact safe_malformed (s := { s with rsState := .atrCaptured }) { f with } hs rfl hp .parity

theorem safe_atrByte {s : State} (f : InReset s) (h : receiving s = true) (b : Byte) : (atrByte b s).safe = true := by
  rcases atrByte_cases b s with ⟨-, e⟩ | ⟨hlate, e⟩ <;> rw [e]
  · refine (f.goto _).safe ?_
    rcases atrRow_cases b s with hrow | ⟨role, i, -, hd, hrow⟩ <;> rw [hrow]
    · exact h
    · exact (microFits_of_decodeAtrByte hd _).trans h
  · simp only [firstTooLate, Bool.and_eq_true, beq_iff_eq] at hlate
    exact safe_noCard f h hlate.1

/-- The wait goes on over a channel primitive, whatever the time and the count. -/
theorem InReset.safe_rxChar {s : State} (f : InReset s) (h : receiving s = true) {wait : Nat} (hw : 1 ≤ wait)
    (dl : Option Nat) (now tick : Nat) (retry : BitVec 8) (ch : CharPhase) (mid : Bool) (history : List Event)
    (replies : List Reply) :
    State.safe { s with now := now, tick := tick, retry := retry, todo := .micro (.rxChar wait dl), char := ch,
                        midStep := mid, history := history, replies := replies } = true := by
  refine (f.flow _ _ _ _ _ _ _ _).safe (todoFits_rxChar_of_receiving rfl hw ?_)
  rw [← h]
  unfold receiving
  rfl

theorem receiving_retry (m : BitVec 8) (s : State) : receiving { s with retry := m } = receiving s := by
  unfold receiving
  rfl

theorem goesOnSafe_rxChar_of_receiving {s : State} (f : InReset s) (h : receiving s = true) {wait : Nat}
    (hw : 1 ≤ wait) (dl : Option Nat) : GoesOnSafe (execRxChar wait dl s) := by
  have htimeout : ∀ {u : State}, InReset u → receiving u = true → (rxTimeout u).safe = true := fun g hr => by
    rw [rxTimeout_of_rs g.owner]
    exact safe_atrTimeout g hr
  rcases execRxChar_cases wait dl s with ⟨b, e⟩ | e | e | ⟨b, -, -, e⟩ | ⟨n, -, e⟩ <;> rw [e]
  · rw [rxByte_of_rs f.owner]
    exact ⟨_, rfl, safe_atrByte f h b⟩
  · exact ⟨_, rfl, htimeout f h⟩
  · rw [rxExhausted_of_rs f.owner]
    exact ⟨_, rfl, safe_atrExhausted f h⟩
  · exact ⟨_, rfl, f.safe_rxChar h hw dl _ _ _ _ _ _ _⟩
  · refine ⟨_, rfl, ?_⟩
    rcases tryRecv_cases wait dl { s with retry := n } with e | e <;> rw [e]
    · exact htimeout { f with } (by rwa [receiving_retry])
    · exact f.safe_rxChar h hw dl _ _ _ _ _ _ _

/-- Every line of a card reset. -/
theorem goesOnSafe_resetLine {s : State} {td : Todo} (f : InReset s) (h : ResetLine s td) :
    GoesOnSafe (runFlight td s) := by
  cases h with
  | contact hs he hc => exact goesOnSafe_runContact f hs he hc
  | capture run hr => rw [run]; exact goesOnSafe_captureAtr f hr _
  | rxChar hw hr => exact goesOnSafe_rxChar_of_receiving f hr hw _
  | statusOk hs =>
    refine ⟨_, rfl, AtRest.safe_respond ?_⟩
    rw [f.retireCommand]
    exact f.respond _ _
  | noCard => exact ⟨_, rfl, (f.respond _ _).safe_respond⟩
  | fails run hp => exact ⟨_, run, (f.respond_failAtr hp _ _).safe_respond⟩

end Sys2Proof.Machine
end

section
/-! The lines of a transfer go on to safe states. -/

namespace Sys2Proof.Machine

/-- The time, the oracle and the place in the pseudocode are no part of what a transfer in flight says. -/
theorem InTransfer.flow {hd : Header} {c : XCase} {s : State} (f : InTransfer hd c s) (now tick : Nat)
    (retry : BitVec 8) (td : Todo) (ch : CharPhase) (mid : Bool) (history : List Event) (replies : List Reply) :
    InTransfer hd c { s with now := now, tick := tick, retry := retry, todo := td, char := ch, midStep := mid,
                             history := history, replies := replies } :=
  { f with }

theorem InTransfer.goto {hd : Header} {c : XCase} {s : State} (f : InTransfer hd c s) (td : Todo) :
    InTransfer hd c (goto td s) :=
  { f with }

/-- A line writes the phase, the count and the response; the rest of the transfer is as it was. -/
theorem InTransfer.write {hd : Header} {c : XCase} {s : State} (f : InTransfer hd c s) {x : XferState} {i : BitVec 9}
    {m : Memory} {l : BitVec 8} {a b : Option Byte}
    (fits : transferFits hd c { s with xferState := x, idx := i, rsp := m, rspLen := l, sw1 := a, sw2 := b } = true)
    (fill : filledBelow m (if x = .dataIn then i.toNat else l.toNat) = true) :
    InTransfer hd c { s with xferState := x, idx := i, rsp := m, rspLen := l, sw1 := a, sw2 := b } :=
  { f with fits := fits, rsp := fill }

theorem InTransfer.dataCount {hd : Header} {c : XCase} {s : State} (f : InTransfer hd c s) :
    dataCount s = hd.p3.toNat := by
  simp [Machine.dataCount, f.hdr]

/-! ## The waits and the ends -/

theorem todoFits_rxChar_of_listening {s : State} {wait : Nat} {dl : Option Nat} (htd : s.todo = .micro (.rxChar wait dl))
    (hw : 1 ≤ wait) (hl : listening s = true) : todoFits s = true := by
  simp [todoFits, htd, microFits, hw, hl]

theorem InTransfer.safe_awaitCardByte {hd : Header} {c : XCase} {s : State} (f : InTransfer hd c s)
    (h : listening s = true) : (awaitCardByte s).safe = true :=
  (f.goto _).safe (todoFits_rxChar_of_listening rfl (one_le_cycles Config.wwtEtu.pos f.baud f.baudPos) h)

theorem InTransfer.safe_awaitProcedureByte {hd : Header} {c : XCase} {s : State} (f : InTransfer hd c s)
    (h : listening s = true) : (awaitProcedureByte s).safe = true :=
  (f.goto _).safe (todoFits_rxChar_of_listening rfl (one_le_cycles Config.wwtEtu.pos f.baud f.baudPos) h)

theorem todoFits_txChar_iff {s : State} {b : Byte} (htd : s.todo = .micro (.txChar b)) : todoFits s = true ↔
    s.xferState = .sendHeader ∧ s.idx.toNat < Config.hdrLen ∨
    s.xferState = .dataOut ∧ s.idx.toNat < Machine.dataCount s := by
  simp [todoFits, htd, microFits]

theorem InTransfer.safe_fails {hd : Header} {c : XCase} {s : State} (f : InTransfer hd c s) {i : Instr}
    (hi : microFits i (Machine.goto (.micro i) s) = (s.owner == .xfer)) : (Machine.goto (.micro i) s).safe = true :=
  (f.goto _).safe (hi.trans (by simp [f.owner]))

/-! ## What a transfer says in each phase (R36 to R40) -/

theorem InTransfer.kind {hd : Header} {c : XCase} {s : State} (f : InTransfer hd c s) :
    ((c == .case1) = (hd.p3 == 0)) ∧ s.doutLen = if c = .case2 then hd.p3 else 0 := by
  have h := f.fits
  simp only [transferFits, Bool.and_eq_true, beq_iff_eq] at h
  exact h.1

theorem InTransfer.sendHeader {hd : Header} {c : XCase} {s : State} (f : InTransfer hd c s)
    (hx : s.xferState = .sendHeader) : s.idx.toNat ≤ Config.hdrLen ∧ s.rspLen = 0 ∧ s.sw1 = none ∧ s.sw2 = none := by
  have h := f.fits
  simp only [transferFits, hx, Bool.and_eq_true, beq_iff_eq, decide_eq_true_eq, and_assoc] at h
  exact h.2.2

theorem InTransfer.awaitProcedureByte {hd : Header} {c : XCase} {s : State} (f : InTransfer hd c s)
    (hx : s.xferState = .awaitProcedureByte) : s.rspLen = 0 ∧ s.sw2 = none := by
  have h := f.fits
  simp only [transferFits, hx, Bool.and_eq_true, beq_iff_eq] at h
  exact h.2

theorem InTransfer.dataOut {hd : Header} {c : XCase} {s : State} (f : InTransfer hd c s)
    (hx : s.xferState = .dataOut) : c = .case2 ∧ s.rspLen = 0 ∧ s.sw2 = none ∧
      (s.idx.toNat = hd.p3.toNat ∨ s.idx.toNat < hd.p3.toNat ∧ s.sw1 = none) := by
  have h := f.fits
  simp only [transferFits, hx, Bool.and_eq_true, Bool.or_eq_true, beq_iff_eq, decide_eq_true_eq, and_assoc] at h
  exact h.2.2

theorem InTransfer.dataIn {hd : Header} {c : XCase} {s : State} (f : InTransfer hd c s)
    (hx : s.xferState = .dataIn) : c = .case3 ∧ s.sw2 = none ∧
      (s.idx.toNat = hd.p3.toNat ∧ s.rspLen = hd.p3 ∨ s.idx.toNat < hd.p3.toNat ∧ s.rspLen = 0 ∧ s.sw1 = none) := by
  have h := f.fits
  simp only [transferFits, hx, Bool.and_eq_true, Bool.or_eq_true, beq_iff_eq, decide_eq_true_eq, and_assoc] at h
  exact h.2.2

/-! ## The data phases (R248, R249) -/

/-- The loop head of `DataOut`, `i` bytes sent and no status byte taken. -/
theorem InTransfer.safe_dataOutLoop {hd : Header} {s : State} (f : InTransfer hd .case2 s) (hl : s.rspLen = 0)
    (h1 : s.sw1 = none) (h2 : s.sw2 = none) {i : BitVec 9} (hi : i.toNat ≤ hd.p3.toNat)
    (hr : filledBelow s.rsp 0 = true) :
    (dataOutLoop { s with idx := i, xferState := .dataOut }).safe = true := by
  have g : InTransfer hd .case2 { s with idx := i, xferState := .dataOut } := by
    refine f.write ?_ (by simpa [hl] using hr)
    simpa [transferFits, f.kind, hl, h1, h2] using Nat.eq_or_lt_of_le hi
  unfold dataOutLoop
  rw [readHdr_of_some g.hdr]
  split
  · rename_i hlt
    refine (g.goto _).safe ((todoFits_txChar_iff rfl).mpr (.inr ⟨rfl, ?_⟩))
    rw [(g.goto _).dataCount]
    exact hlt
  · rename_i hge
    refine g.safe_awaitCardByte ?_
    simp only [listening, g.dataCount, beq_iff_eq]
    exact Nat.le_antisymm hi (Nat.not_lt.mp hge)

/-- The loop head of `DataIn`, `i` bytes stored: a data byte is awaited, or all are there and `rsp_len` is written. -/
theorem InTransfer.safe_dataInLoop {hd : Header} {s : State} (f : InTransfer hd .case3 s) (hl : s.rspLen = 0)
    (h1 : s.sw1 = none) (h2 : s.sw2 = none) {i : BitVec 9} {m : Memory} (hi : i.toNat ≤ hd.p3.toNat)
    (hm : filledBelow m i.toNat = true) :
    (dataInLoop { s with idx := i, xferState := .dataIn, rsp := m }).safe = true := by
  have hh : readHdr { s with idx := i, xferState := .dataIn, rsp := m } = hd := readHdr_of_some f.hdr
  unfold dataInLoop
  rw [hh]
  split
  · rename_i hlt
    refine InTransfer.safe_awaitCardByte (f.write ?_ (by simpa using hm)) rfl
    simpa [transferFits, f.kind, hl, h1, h2] using .inr hlt
  · rename_i hge
    refine InTransfer.safe_awaitCardByte (f.write ?_ (by simpa using hm)) rfl
    simpa [transferFits, f.kind, h1, h2] using .inl (Nat.le_antisymm hi (Nat.not_lt.mp hge))

/-- The reaction to ACK (R245): P3 = 0 in Case 1 only, so a data phase has something to move. -/
theorem InTransfer.safe_ackReaction {hd : Header} {c : XCase} {s : State} (f : InTransfer hd c s)
    (hx : s.xferState = .awaitProcedureByte) (h1 : s.sw1 = none) : (ackReaction s).safe = true := by
  obtain ⟨hl, h2⟩ := f.awaitProcedureByte hx
  have hr : filledBelow s.rsp 0 = true := by simpa [rspFill, hx, hl] using f.rsp
  rcases ackReaction_cases s with ⟨-, e⟩ | ⟨hc, e⟩ | ⟨hc, e⟩ <;> rw [e]
  · exact f.safe_fails rfl
  · obtain rfl : c = .case2 := (readXcase_of_some f.xcase).symm.trans hc
    exact f.safe_dataOutLoop hl h1 h2 (Nat.zero_le _) hr
  · obtain rfl : c = .case3 := (readXcase_of_some f.xcase).symm.trans hc
    exact f.safe_dataInLoop hl h1 h2 (Nat.zero_le _) hr

/-! ## The bytes sent (R243, R248) -/

theorem toNat_idx_succ {i : BitVec 9} {n : Nat} (h : i.toNat < n) (hn : n < 512) : (i + 1).toNat = i.toNat + 1 := by
  bv_omega

theorem sentByte_of_sendHeader {s : State} (hx : s.xferState = .sendHeader) :
    sentByte s = goto (.micro (headerInstr (readHdr s))) { s with idx := s.idx + 1, xferState := .sendHeader } := by
  cases s
  cases hx
  rfl

theorem sentByte_of_dataOut {s : State} (hx : s.xferState = .dataOut) :
    sentByte s = dataOutLoop { s with idx := s.idx + 1, xferState := .dataOut } := by
  cases s
  cases hx
  rfl

theorem InTransfer.safe_sentByte {hd : Header} {c : XCase} {s : State} (f : InTransfer hd c s)
    (h : s.xferState = .sendHeader ∧ s.idx.toNat < Config.hdrLen ∨
      s.xferState = .dataOut ∧ s.idx.toNat < Machine.dataCount s) : (sentByte s).safe = true := by
  rcases h with ⟨hx, hi⟩ | ⟨hx, hi⟩
  · obtain ⟨-, hl, h1, h2⟩ := f.sendHeader hx
    have hn := toNat_idx_succ hi (by decide)
    have hr : filledBelow s.rsp 0 = true := by simpa [rspFill, hx, hl] using f.rsp
    rw [sentByte_of_sendHeader hx, readHdr_of_some f.hdr]
    refine InTransfer.safe (InTransfer.goto (f.write ?_ (by simpa [hl] using hr)) _) ?_
    · generalize s.idx + 1 = i at hn
      simpa [transferFits, f.kind, hl, h1, h2, hn] using hi
    · simp [todoFits, microFits, headerInstr, f.hdr]
  · obtain ⟨rfl, hl, h2, hidx⟩ := f.dataOut hx
    rw [f.dataCount] at hi
    have hn := toNat_idx_succ hi (by omega)
    obtain ⟨-, h1⟩ := hidx.resolve_left (by omega)
    have hr : filledBelow s.rsp 0 = true := by simpa [rspFill, hx, hl] using f.rsp
    rw [sentByte_of_dataOut hx]
    exact f.safe_dataOutLoop hl h1 h2 (by omega) hr

theorem InTransfer.goesOnSafe_txChar {hd : Header} {c : XCase} {s : State} (f : InTransfer hd c s)
    (h : s.xferState = .sendHeader ∧ s.idx.toNat < Config.hdrLen ∨
      s.xferState = .dataOut ∧ s.idx.toNat < Machine.dataCount s) (b : Byte) : GoesOnSafe (execTxChar b s) := by
  rcases execTxChar_cases b s with e | e | ⟨n, -, e⟩ <;> rw [e]
  · exact ⟨_, rfl, f.safe_sentByte h⟩
  · exact ⟨_, rfl, f.safe_fails rfl⟩
  · have g : InTransfer hd c (trySend b { s with retry := n }) := f.flow _ _ _ _ _ _ _ _
    exact ⟨_, rfl, g.safe ((todoFits_txChar_iff rfl).mpr h)⟩

/-! ## The bytes received (R244, R247, R249, R250) -/

/-- SW2: the Response is complete, SW1 being there. -/
theorem InTransfer.safe_statusComplete {hd : Header} {c : XCase} {s : State} (f : InTransfer hd c s)
    (h1 : s.sw1.isSome = true) (hr : filledBelow s.rsp s.rspLen.toNat = true) (b : Byte) :
    (statusComplete b s).safe = true := by
  refine InTransfer.safe (InTransfer.goto (f.write ?_ hr) _) ?_
  · simp [transferFits, f.kind, h1]
  · simp [todoFits, microFits, statusComplete]

/-- A status byte after a data phase: the response is filled to `rsp_len`, and SW1 leaves the wait as it is. -/
theorem InTransfer.safe_statusByte {hd : Header} {c : XCase} {s : State} (f : InTransfer hd c s)
    (hr : filledBelow s.rsp s.rspLen.toNat = true) (b : Byte)
    (g : InTransfer hd c { s with sw1 := some b }) (hl : listening s = true) : (statusByte b s).safe = true := by
  rcases statusByte_cases b s with ⟨-, e⟩ | ⟨h1, e⟩ <;> rw [e]
  · exact g.safe_awaitCardByte hl
  · exact f.safe_statusComplete h1 hr b

theorem microFits_classifyProc (ins b : Byte) {s : State} (hx : s.xferState = .awaitProcedureByte)
    (h1 : s.sw1 = none) : microFits (classifyProc ins b) s = true := by
  unfold classifyProc
  split_ifs <;> simp [microFits, hx, h1]

theorem InTransfer.safe_procedureByte {hd : Header} {c : XCase} {s : State} (f : InTransfer hd c s)
    (hx : s.xferState = .awaitProcedureByte) (b : Byte) : (procedureByte b s).safe = true := by
  rcases procedureByte_cases b s with ⟨h1, e⟩ | ⟨h1, e⟩ <;> rw [e]
  · exact (f.goto _).safe (microFits_classifyProc _ b hx h1)
  · exact f.safe_statusComplete h1 (by simpa [rspFill, hx] using f.rsp) b

/-- A status byte after the data sent, all of them (R248, R250). -/
theorem InTransfer.safe_statusByte_dataOut {hd : Header} {c : XCase} {s : State} (f : InTransfer hd c s)
    (hx : s.xferState = .dataOut) (hl : listening s = true) (b : Byte) : (statusByte b s).safe = true := by
  obtain ⟨rfl, hlen, h2, -⟩ := f.dataOut hx
  have hi : s.idx.toNat = hd.p3.toNat := by simpa [listening, hx, f.dataCount] using hl
  have hr : filledBelow s.rsp s.rspLen.toNat = true := by simpa [rspFill, hx] using f.rsp
  refine f.safe_statusByte hr b (f.write ?_ (by simpa [hx] using hr)) hl
  simp [transferFits, f.kind, hx, hlen, h2, hi]

/-- A status byte after the data received, all of them (R249, R250). -/
theorem InTransfer.safe_statusByte_dataIn {hd : Header} {c : XCase} {s : State} (f : InTransfer hd c s)
    (hx : s.xferState = .dataIn) (hge : hd.p3.toNat ≤ s.idx.toNat) (b : Byte) : (statusByte b s).safe = true := by
  obtain ⟨rfl, h2, hidx⟩ := f.dataIn hx
  obtain ⟨hi, hlen⟩ := hidx.resolve_right (by omega)
  have hr : filledBelow s.rsp s.idx.toNat = true := by simpa [rspFill, hx] using f.rsp
  refine f.safe_statusByte (by rwa [hlen, ← hi]) b (f.write ?_ (by simpa [hx] using hr)) (by simp [listening, hx])
  simp [transferFits, f.kind, hx, hlen, h2, hi]

theorem InTransfer.goesOnSafe_dataInByte {hd : Header} {c : XCase} {s : State} (f : InTransfer hd c s)
    (hx : s.xferState = .dataIn) (b : Byte) : GoesOnSafe (dataInByte b s) := by
  obtain ⟨t, ht⟩ := dataInByte_ne_fault b s
  refine ⟨t, ht, ?_⟩
  rcases dataInByte_eq_next ht with ⟨hi, -, e⟩ | ⟨hge, rfl⟩
  · rw [readHdr_of_some f.hdr] at hi
    obtain ⟨rfl, h2, hidx⟩ := f.dataIn hx
    obtain ⟨-, hl, h1⟩ := hidx.resolve_left (by omega)
    have hn := toNat_idx_succ hi (by omega)
    have hr : filledBelow s.rsp s.idx.toNat = true := by simpa [rspFill, hx] using f.rsp
    have hphase : t = dataInLoop
        { s with rsp := memWrite s.rsp s.idx.toNat b, idx := s.idx + 1, xferState := .dataIn } := by
      rw [e]
      exact congrArg (fun x => dataInLoop { s with rsp := _, idx := _, xferState := x }) hx
    rw [hphase]
    exact f.safe_dataInLoop hl h1 h2 (by omega) (by rw [hn]; exact filledBelow_memWrite b hr)
  · rw [readHdr_of_some f.hdr] at hge
    exact f.safe_statusByte_dataIn hx hge b

theorem InTransfer.goesOnSafe_xferByte {hd : Header} {c : XCase} {s : State} (f : InTransfer hd c s)
    (hl : listening s = true) (b : Byte) : GoesOnSafe (xferByte b s) := by
  cases hx : s.xferState <;> simp only [xferByte, hx]
  case awaitProcedureByte => exact ⟨_, rfl, f.safe_procedureByte hx b⟩
  case dataOut => exact ⟨_, rfl, f.safe_statusByte_dataOut hx hl b⟩
  case dataIn => exact f.goesOnSafe_dataInByte hx b
  all_goals simp [listening, hx] at hl

/-- The wait goes on over a channel primitive, whatever the time and the count. -/
theorem InTransfer.safe_rxChar {hd : Header} {c : XCase} {s : State} (f : InTransfer hd c s) (h : listening s = true)
    {wait : Nat} (hw : 1 ≤ wait) (dl : Option Nat) (now tick : Nat) (retry : BitVec 8) (ch : CharPhase) (mid : Bool)
    (history : List Event) (replies : List Reply) :
    State.safe { s with now := now, tick := tick, retry := retry, todo := .micro (.rxChar wait dl), char := ch,
                        midStep := mid, history := history, replies := replies } = true := by
  refine (f.flow _ _ _ _ _ _ _ _).safe (todoFits_rxChar_of_listening rfl hw ?_)
  rw [← h]
  unfold listening
  rfl

theorem InTransfer.goesOnSafe_rxChar {hd : Header} {c : XCase} {s : State} (f : InTransfer hd c s)
    (h : listening s = true) {wait : Nat} (hw : 1 ≤ wait) (dl : Option Nat) : GoesOnSafe (execRxChar wait dl s) := by
  have htimeout : ∀ {u : State}, InTransfer hd c u → (rxTimeout u).safe = true := fun g => by
    rw [rxTimeout_of_xfer g.owner]
    exact g.safe_fails rfl
  rcases execRxChar_cases wait dl s with ⟨b, e⟩ | e | e | ⟨b, -, -, e⟩ | ⟨n, -, e⟩ <;> rw [e]
  · rw [rxByte_of_xfer f.owner]
    exact f.goesOnSafe_xferByte h b
  · exact ⟨_, rfl, htimeout f⟩
  · rw [rxExhausted_of_xfer f.owner]
    exact ⟨_, rfl, f.safe_fails rfl⟩
  · exact ⟨_, rfl, f.safe_rxChar h hw dl _ _ _ _ _ _ _⟩
  · refine ⟨_, rfl, ?_⟩
    rcases tryRecv_cases wait dl { s with retry := n } with e | e <;> rw [e]
    · exact htimeout { f with }
    · exact f.safe_rxChar h hw dl _ _ _ _ _ _ _

/-! ## The header -/

theorem InTransfer.goesOnSafe_header {hd : Header} {c : XCase} {s : State} (f : InTransfer hd c s)
    (hx : s.xferState = .sendHeader) (cla ins p1 p2 p3 : Byte) : GoesOnSafe (execTpduHdr cla ins p1 p2 p3 s) := by
  obtain ⟨-, hl, h1, h2⟩ := f.sendHeader hx
  have hr : filledBelow s.rsp 0 = true := by simpa [rspFill, hx, hl] using f.rsp
  unfold execTpduHdr
  split
  · rename_i hi
    exact ⟨_, rfl, (f.goto _).safe ((todoFits_txChar_iff rfl).mpr (.inl ⟨hx, hi⟩))⟩
  · refine ⟨_, rfl, InTransfer.safe_awaitProcedureByte (f.write ?_ (by simpa [hl] using hr)) rfl⟩
    simp [transferFits, f.kind, hl, h2]

theorem InTransfer.safe_runFlush {hd : Header} {c : XCase} {s : State} (f : InTransfer hd c s)
    (hx : s.xferState = .sendHeader) : (runFlush s).safe = true := by
  have g : InTransfer hd c (runFlush s) := f.flow _ _ _ _ _ _ _ _
  refine g.safe ?_
  simp [runFlush, todoFits, microFits, headerInstr, readHdr_of_some f.hdr, chFlush, hx, f.hdr]

/-! ## Every line -/

theorem goesOnSafe_transferLine {hd : Header} {c : XCase} {s : State} {td : Todo} (f : InTransfer hd c s)
    (h : TransferLine s td) : GoesOnSafe (runFlight td s) := by
  cases h with
  | flush hx => exact ⟨_, rfl, f.safe_runFlush hx⟩
  | header hx => exact f.goesOnSafe_header hx _ _ _ _ _
  | null hx => exact ⟨_, rfl, f.safe_awaitProcedureByte (by simp [listening, hx])⟩
  | ack run hx h1 => exact ⟨_, run, f.safe_ackReaction hx h1⟩
  | sw1 hx =>
    obtain ⟨hl, h2⟩ := f.awaitProcedureByte hx
    refine ⟨_, rfl, InTransfer.safe_awaitCardByte (f.write (x := s.xferState) ?_ f.rsp) (by simp [listening, hx])⟩
    simp [transferFits, f.kind, hx, hl, h2]
  | txChar turn => exact f.goesOnSafe_txChar turn _
  | rxChar hw hl => exact f.goesOnSafe_rxChar hl hw _
  | statusOk hx =>
    refine ⟨_, rfl, AtRest.safe_respond ?_⟩
    rw [retireCommand_of_transfer f.op]
    exact f.respond_retire hx _ _
  | fails run => exact ⟨_, run, (f.raiseTransferError _).safe_respond⟩

/-- The line that is next in a safe state, or time passing at rest. -/
theorem goesOnSafe_runFlight {s : State} (h : s.safe = true) : GoesOnSafe (runFlight s.todo s) := by
  rcases inFlight_cases h with f | f | ⟨hd, c, f⟩
  · have htd := todo_of_atRest h f
    rw [htd]
    have g : AtRest (idleTick s) := { f with }
    refine ⟨_, rfl, g.safe ?_⟩
    simp [todoFits, htd, f.busy]
  · exact goesOnSafe_resetLine f (resetLine_of_safe h f)
  · exact goesOnSafe_transferLine f (transferLine_of_safe h f)

/-- Settles O55: by what the step runs, and for the line in flight by what is in flight. -/
theorem safeStatesStaySafe : Obligations.SafeStatesStaySafe := by
  intro s h
  rcases step_cases s with ⟨-, e⟩ | ⟨bs, -, e⟩ | ⟨-, -, e⟩ <;> rw [e]
  · exact ⟨_, rfl, safe_hardwareReset _⟩
  · exact goesOnSafe_runCommand ((safe_takeMove s).trans h) bs
  · obtain ⟨t, ht, hsafe⟩ := goesOnSafe_runFlight h
    rw [ht]
    exact ⟨_, rfl, (safe_holdShown s t).trans hsafe⟩

end Sys2Proof.Machine
end

section
/-! What the host reads: the payloads' places and what writes them, the status view by number and its codes. -/

namespace Sys2Proof.Machine

/-! ## The places of the payloads (20_memory.md R76) -/

/-- The result pair, and the session's timing it is compared with. -/
def timingPlaces (s : State) : Option (BitVec 16) × Option (BitVec 9) × Option (BitVec 16) × Option (BitVec 9) :=
  (s.resBaudDiv, s.resGuardTicks, s.baudDiv, s.guardTicks)

/-- The places of a reset's response. -/
def atrPlaces (s : State) : Option AtrView × Memory × BitVec 8 × RsState × ResetKind :=
  (s.atrd, s.atr, s.atrLen, s.rsState, s.rsKind)

/-- The places of a transfer's response. -/
def responsePlaces (s : State) : Option Byte × Option Byte × Memory × BitVec 8 :=
  (s.sw1, s.sw2, s.rsp, s.rspLen)

theorem payload_init_congr {s t : State} (h : timingPlaces t = timingPlaces s) : payload .init t = payload .init s := by
  simp only [timingPlaces, Prod.mk.injEq] at h
  simp only [payload, sessionPayload, h]

theorem payload_deriveTiming_congr {s t : State} (h : timingPlaces t = timingPlaces s) :
    payload .deriveTiming t = payload .deriveTiming s := by
  simp only [timingPlaces, Prod.mk.injEq] at h
  simp only [payload, timingPayload, h]

theorem payload_resetOp (k : ResetKind) (s : State) :
    payload (resetOp k) s = if resetInFlight s ∨ s.rsKind ≠ k then .none else resetPayload s := by
  cases k <;> rfl

theorem payload_resetOp_congr (k : ResetKind) {s t : State} (h : atrPlaces t = atrPlaces s)
    (hop : resetInFlight t = resetInFlight s) : payload (resetOp k) t = payload (resetOp k) s := by
  simp only [atrPlaces, Prod.mk.injEq] at h
  simp only [payload_resetOp, resetPayload, capturedAtr, h, hop]

theorem payload_response_congr {s t : State} (h : responsePlaces t = responsePlaces s)
    (hs : s.curOp ≠ .transfer) (ht : t.curOp ≠ .transfer) : payload .transfer t = payload .transfer s := by
  simp only [responsePlaces, Prod.mk.injEq] at h
  simp only [payload, transferPayload, responseData, h, if_neg hs, if_neg ht]

theorem payload_view_congr {s t : State} (h : t.decd = s.decd) : payload .decodeAtr t = payload .decodeAtr s := by
  simp only [payload, h]

/-- A reset's command or line that leaves the places of the other commands' responses, no transfer in flight before or
after. -/
structure ResetKeeps (s t : State) : Prop where
  timing : timingPlaces t = timingPlaces s
  response : responsePlaces t = responsePlaces s
  decd : t.decd = s.decd
  op : t.curOp ≠ .transfer

theorem ResetKeeps.payloads {s t : State} (h : ResetKeeps s t) (hs : s.curOp ≠ .transfer) :
    ∀ op ∈ [Op.init, .deriveTiming, .transfer, .decodeAtr], payload op t = payload op s := by
  simp only [List.mem_cons, List.not_mem_nil, or_false, forall_eq_or_imp, forall_eq]
  exact ⟨payload_init_congr h.timing, payload_deriveTiming_congr h.timing, payload_response_congr h.response hs h.op,
    payload_view_congr h.decd⟩

/-- A transfer's command or line that leaves the places of the other commands' responses, no reset in flight before or
after. -/
structure TransferKeeps (s t : State) : Prop where
  timing : timingPlaces t = timingPlaces s
  atr : atrPlaces t = atrPlaces s
  decd : t.decd = s.decd
  op : resetInFlight t = false

theorem TransferKeeps.payloads {s t : State} (h : TransferKeeps s t) (hs : resetInFlight s = false) :
    ∀ op ∈ [Op.init, .deriveTiming, .coldReset, .warmReset, .decodeAtr], payload op t = payload op s := by
  have hop := h.op.trans hs.symm
  simp only [List.mem_cons, List.not_mem_nil, or_false, forall_eq_or_imp, forall_eq]
  exact ⟨payload_init_congr h.timing, payload_deriveTiming_congr h.timing, payload_resetOp_congr .cold h.atr hop,
    payload_resetOp_congr .warm h.atr hop, payload_view_congr h.decd⟩

/-! ## The lines of a card reset -/

theorem resetKeeps_of_outsideCapture {s t : State} (hs : s.curOp ≠ .transfer)
    (h : outsideCapture t = outsideCapture (goto .idle s)) : ResetKeeps s t where
  timing := (congrArg timingPlaces h :)
  response := (congrArg responsePlaces h :)
  decd := (congrArg State.decd h :)
  op := fun ht => hs ((congrArg State.curOp h :).symm.trans ht)

/-- The time, the oracle and the place in the pseudocode are no place of a response. -/
theorem resetKeeps_flow {s : State} (hs : s.curOp ≠ .transfer) (now tick : Nat) (retry : BitVec 8) (td : Todo)
    (ch : CharPhase) (mid : Bool) (history : List Event) (replies : List Reply) :
    ResetKeeps s { s with now := now, tick := tick, retry := retry, todo := td, char := ch, midStep := mid,
                          history := history, replies := replies } :=
  ⟨rfl, rfl, rfl, hs⟩

theorem resetKeeps_rxChar {s t : State} (ho : s.owner = .rs) (hs : s.curOp ≠ .transfer) {wait : Nat} {dl : Option Nat}
    (h : execRxChar wait dl s = .next t) : ResetKeeps s t := by
  rcases execRxChar_cases wait dl s with ⟨b, e⟩ | e | e | ⟨b, -, -, e⟩ | ⟨n, -, e⟩ <;> rw [e] at h
  · rw [rxByte_of_rs ho] at h
    cases h
    exact resetKeeps_of_outsideCapture hs (atrByte_outside b s)
  all_goals cases h
  · rw [rxTimeout_of_rs ho]
    exact resetKeeps_of_outsideCapture hs (atrTimeout_outside s)
  · rw [rxExhausted_of_rs ho]
    exact resetKeeps_of_outsideCapture hs (atrExhausted_outside s)
  · exact resetKeeps_flow hs _ _ _ _ _ _ _ _
  · rcases tryRecv_cases wait dl { s with retry := n } with e | e <;> rw [e]
    · rw [rxTimeout_of_rs (s := { s with retry := n }) ho]
      have g := resetKeeps_of_outsideCapture (s := { s with retry := n }) hs (atrTimeout_outside _)
      exact ⟨g.timing, g.response, g.decd, g.op⟩
    · exact resetKeeps_flow hs _ _ _ _ _ _ _ _

theorem resetLine_keeps {s t : State} {td : Todo} (f : InReset s) (h : ResetLine s td)
    (run : runFlight td s = .next t) : ResetKeeps s t := by
  have hs := f.op_ne_transfer
  cases h with
  | @contact c =>
    cases run
    cases c <;> exact ⟨rfl, rfl, rfl, hs⟩
  | capture e => exact resetKeeps_of_outsideCapture hs (captureAtr_outside (e.symm.trans run))
  | rxChar => exact resetKeeps_rxChar f.owner hs run
  | statusOk =>
    cases run
    rw [f.retireCommand]
    exact ⟨rfl, rfl, rfl, by simp⟩
  | noCard =>
    cases run
    exact ⟨rfl, rfl, rfl, by simp [raiseNoCardResponse]⟩
  | fails e =>
    cases e.symm.trans run
    rw [failAtr_of_reset f.op]
    exact ⟨rfl, rfl, rfl, by simp⟩

/-- A command presented in a card reset is refused (R107, 70_reset_and_hazards.md R330). -/
theorem exec_command_of_busy {s : State} {i : Instr} (hb : s.busy = true) (hop : s.curOp ≠ .transfer)
    (hi : i.isCommand = true) : exec i s = .next s := by
  have hreset : ∀ k, resetCommand k s = s := fun k => by
    rcases resetCommand_accepted k s with e | ⟨h, -⟩ | ⟨-, h, -⟩
    · exact e
    · simp [hb] at h
    · exact absurd h hop
  have hne : s.busy ≠ false := by simp [hb]
  cases i with
  | init c => exact (execInit_cases c s).elim And.left fun h => absurd h.1 hne
  | deriveTiming d => exact (execDeriveTiming_cases d s).resolve_right fun h => hne h.1
  | coldReset => exact congrArg _ (hreset .cold)
  | warmReset => exact congrArg _ (hreset .warm)
  | transfer cla ins p1 p2 p3 =>
    exact (execTransfer_cases cla ins p1 p2 p3 [] s (.inl rfl)).resolve_right fun h => hne h.1
  | transferD cla ins p1 p2 p3 data =>
    exact (execTransfer_cases cla ins p1 p2 p3 data s (.inr rfl)).resolve_right fun h => hne h.1
  | decodeAtr bs => exact (execDecodeAtr_cases bs s).resolve_right fun h => hne h.1
  | reservedOp0 => rfl
  | reservedOp7 => rfl
  | _ => cases hi

/-- Every step of a card reset, a presented command among them (R331). -/
theorem resetKeeps_step {s t : State} (h : s.safe = true) (f : InReset s) (hstep : step s = .next t)
    (hreset : fetch s ≠ .hardwareReset) : ResetKeeps s t := by
  have hs := f.op_ne_transfer
  rcases step_cases s with ⟨hf, -⟩ | ⟨bs, -, e⟩ | ⟨-, -, e⟩
  · exact absurd hf hreset
  · have hrefused : runCommand bs (takeMove s) = .next (takeMove s) := by
      rcases runCommand_cases bs (takeMove s) with ⟨i, hd, e'⟩ | e' <;> rw [e']
      exact exec_command_of_busy f.busy hs (isCommand_of_decodeCommand hd)
    cases (e.trans hrefused).symm.trans hstep
    exact ⟨rfl, rfl, rfl, hs⟩
  · obtain ⟨u, hu, rfl⟩ := holdShownResult_eq_next (e.symm.trans hstep)
    have g := resetLine_keeps f (resetLine_of_safe h f) hu
    exact ⟨g.timing, g.response, g.decd, g.op⟩

/-! ## The lines of a transfer -/

theorem transferKeeps_of_outsideTransfer {s t : State} (hs : resetInFlight s = false)
    (h : outsideTransfer t = outsideTransfer (goto .idle s)) : TransferKeeps s t where
  timing := (congrArg timingPlaces h :)
  atr := (congrArg atrPlaces h :)
  decd := (congrArg State.decd h :)
  op := (congrArg resetInFlight h :).trans hs

theorem transferKeeps_flow {s : State} (hs : resetInFlight s = false) (now tick : Nat) (retry : BitVec 8) (td : Todo)
    (ch : CharPhase) (mid : Bool) (history : List Event) (replies : List Reply) :
    TransferKeeps s { s with now := now, tick := tick, retry := retry, todo := td, char := ch, midStep := mid,
                             history := history, replies := replies } :=
  ⟨rfl, rfl, rfl, hs⟩

theorem transferKeeps_rxChar {s t : State} (ho : s.owner = .xfer) (hs : resetInFlight s = false) {wait : Nat}
    {dl : Option Nat} (h : execRxChar wait dl s = .next t) : TransferKeeps s t := by
  rcases execRxChar_cases wait dl s with ⟨b, e⟩ | e | e | ⟨b, -, -, e⟩ | ⟨n, -, e⟩ <;> rw [e] at h
  · rw [rxByte_of_xfer ho] at h
    exact transferKeeps_of_outsideTransfer hs (xferByte_outside h)
  all_goals cases h
  · rw [rxTimeout_of_xfer ho]
    exact transferKeeps_flow hs _ _ _ _ _ _ _ _
  · rw [rxExhausted_of_xfer ho]
    exact transferKeeps_flow hs _ _ _ _ _ _ _ _
  · exact transferKeeps_flow hs _ _ _ _ _ _ _ _
  · rcases tryRecv_cases wait dl { s with retry := n } with e | e <;> rw [e]
    · rw [rxTimeout_of_xfer (s := { s with retry := n }) ho]
      exact transferKeeps_flow hs _ _ _ _ _ _ _ _
    · exact transferKeeps_flow hs _ _ _ _ _ _ _ _

theorem transferKeeps_txChar {s t : State} (hs : resetInFlight s = false) {b : Byte}
    (h : execTxChar b s = .next t) : TransferKeeps s t := by
  rcases execTxChar_cases b s with e | e | ⟨n, -, e⟩ <;> rw [e] at h <;> cases h
  · exact transferKeeps_of_outsideTransfer hs (sentByte_outside s)
  · exact transferKeeps_flow hs _ _ _ _ _ _ _ _
  · exact transferKeeps_flow hs _ _ _ _ _ _ _ _

theorem transferKeeps_statusOk {s : State} (hop : s.curOp = .transfer) :
    TransferKeeps s (respond .ok .none (retireCommand s)) := by
  rw [retireCommand_of_transfer hop]
  exact ⟨rfl, rfl, rfl, rfl⟩

theorem transferKeeps_fails (s : State) (st : Status) : TransferKeeps s (raiseTransferError st s) :=
  ⟨rfl, rfl, rfl, rfl⟩

theorem transferLine_keeps {s t : State} {hd : Header} {c : XCase} {td : Todo} (f : InTransfer hd c s)
    (h : TransferLine s td) (run : runFlight td s = .next t) : TransferKeeps s t := by
  have hs : resetInFlight s = false := by simp [resetInFlight, f.op]
  cases h with
  | flush => cases run; exact ⟨rfl, rfl, rfl, hs⟩
  | header => exact transferKeeps_of_outsideTransfer hs (execTpduHdr_outside run)
  | null => cases run; exact ⟨rfl, rfl, rfl, hs⟩
  | ack e =>
    cases e.symm.trans run
    exact transferKeeps_of_outsideTransfer hs (ackReaction_outside s)
  | sw1 => cases run; exact ⟨rfl, rfl, rfl, hs⟩
  | txChar => exact transferKeeps_txChar hs run
  | rxChar => exact transferKeeps_rxChar f.owner hs run
  | statusOk => cases run; exact transferKeeps_statusOk f.op
  | fails e => cases e.symm.trans run; exact transferKeeps_fails s _

/-- Every step of a transfer with no host move due (R331). -/
theorem transferKeeps_step {s t : State} {hd : Header} {c : XCase} (h : s.safe = true) (f : InTransfer hd c s)
    (hstep : step s = .next t) (hmove : dueMove s = none) : TransferKeeps s t := by
  obtain ⟨u, hu, rfl⟩ := holdShownResult_eq_next ((step_of_no_move hmove).symm.trans hstep)
  have g := transferLine_keeps f (transferLine_of_safe h f) hu
  exact ⟨g.timing, g.atr, g.decd, g.op⟩

end Sys2Proof.Machine
end

section
/-! The status view, and O60 put together from the view and the payloads. -/

namespace Sys2Proof.Machine

/-! ## The view between two steps of R13 (10_state.md R62) -/

/-- At a boundary the view reads the registers themselves. -/
theorem statusView_of_boundary {s : State} (h : s.midStep = false) (no : BitVec 5) :
    statusView no s = readView no (statusRegs s) := by
  simp [statusView, shownRegs, h]

/-- Within a step it reads the held registers. -/
theorem statusView_of_midStep {s : State} (h : s.midStep = true) (no : BitVec 5) :
    statusView no s = readView no s.shown := by
  simp [statusView, shownRegs, h]

theorem midStep_of_resetCommand (k : ResetKind) {s : State} (hs : s.midStep = false) :
    (resetCommand k s).midStep = false := by
  rcases resetCommand_accepted k s with e | ⟨-, -, -, e⟩ | ⟨-, -, e⟩ <;> rw [e]
  · exact hs
  · rfl
  · rfl

theorem midStep_of_transfer {s t : State} {cla ins p1 p2 p3 : Byte} {data : List Byte} {i : Instr}
    (hi : i = .transfer cla ins p1 p2 p3 ∨ i = .transferD cla ins p1 p2 p3 data) (hs : s.midStep = false)
    (h : exec i s = .next t) : t.midStep = false := by
  rcases execTransfer_cases cla ins p1 p2 p3 data s hi with e | ⟨-, -, dp, bs, -, e⟩ <;> cases e.symm.trans h
  · exact hs
  · rfl

/-- A command ends at a boundary or is refused. -/
theorem midStep_of_command {i : Instr} {s t : State} (hi : i.isCommand = true) (hs : s.midStep = false)
    (h : exec i s = .next t) : t.midStep = false := by
  cases i with
  | init c =>
    rcases execInit_cases c s with ⟨e, -⟩ | ⟨-, ⟨b, g, -, e⟩ | e⟩ <;> cases e.symm.trans h
    · exact hs
    · rfl
    · rfl
  | deriveTiming d =>
    rcases execDeriveTiming_cases d s with e | ⟨-, ⟨b, g, e⟩ | e⟩ <;> cases e.symm.trans h
    · exact hs
    · rfl
    · rfl
  | coldReset => cases h; exact midStep_of_resetCommand .cold hs
  | warmReset => cases h; exact midStep_of_resetCommand .warm hs
  | transfer => exact midStep_of_transfer (data := []) (.inl rfl) hs h
  | transferD => exact midStep_of_transfer (.inr rfl) hs h
  | decodeAtr bs =>
    rcases execDecodeAtr_cases bs s with e | ⟨-, -, st, d, v, e⟩ <;> cases e.symm.trans h
    · exact hs
    · rfl
  | reservedOp0 => cases h; exact hs
  | reservedOp7 => cases h; exact hs
  | _ => cases hi

/-- No command is taken within a step. -/
theorem midStep_of_fetch_command {s : State} {bs : List Byte} (h : fetch s = .command bs) : s.midStep = false := by
  have hdue : dueMove s = some (.command bs) := by
    unfold fetch at h
    split at h <;> cases h
    assumption
  cases hm : s.midStep with
  | false => rfl
  | true =>
    simp only [dueMove, hm, if_true] at hdue
    split at hdue
    · cases hdue
    · split at hdue
      · split at hdue <;> cases hdue
      · cases hdue

/-- Where a step of the model ends within a step of R13, the view is as it was before. -/
theorem statusView_held {s t : State} (h : step s = .next t) (ht : t.midStep = true) (no : BitVec 5) :
    statusView no t = statusView no s := by
  rcases step_cases s with ⟨-, e⟩ | ⟨bs, hf, e⟩ | ⟨-, -, e⟩ <;> rw [e] at h
  · cases h
    cases ht
  · have hs : s.midStep = false := midStep_of_fetch_command hf
    rcases runCommand_cases bs (takeMove s) with ⟨i, hd, e'⟩ | e' <;> rw [e'] at h
    · have := midStep_of_command (s := takeMove s) (isCommand_of_decodeCommand hd) hs h
      simp [ht] at this
    · cases h
      cases hs.symm.trans ht
  · obtain ⟨u, hu, rfl⟩ := holdShownResult_eq_next h
    have hmid : u.midStep = true := ht
    rw [statusView_of_midStep ht, holdShown_shown]
    cases hs : s.midStep with
    | false => rw [if_pos ⟨rfl, hmid⟩, statusView_of_boundary hs]
    | true => rw [if_neg (by simp), runFlight_shown hu, statusView_of_midStep hs]

/-! ## The registers by number (R63) -/

theorem cfgOfWord_cfgToWord (c : CfgArg) : cfgOfWord (cfgToWord c) = c := by
  cases c
  simp only [cfgOfWord, cfgToWord, CfgArg.mk.injEq]
  simp (disch := omega) only [BitVec.extractLsb'_append_eq_of_le, BitVec.extractLsb'_append_eq_of_add_le,
    BitVec.extractLsb'_eq_self, Nat.reduceSub, and_self]

theorem readView_reserved {no : BitVec 5} (h : 23 ≤ no.toNat) (r : StatusRegs) : readView no r = some 0 := by
  unfold readView
  split
  case h_24 => rfl
  all_goals omega

theorem viewBool_eq (b : Bool) : viewBool b = some (if b then 1 else 0) := by
  cases b <;> rfl

theorem inSession_of_ne_none {r : StatusRegs} (h : r.sessState ≠ .none) (v : Option (BitVec 96)) :
    inSession r v = v := by
  simp [inSession, h]

theorem inSession_of_none {r : StatusRegs} (h : r.sessState = .none) (v : Option (BitVec 96)) :
    inSession r v = none := by
  simp [inSession, h]

/-! ## The payloads by their places (R76, R331) -/

theorem timingPayload_of_none {s : State} (h : s.resBaudDiv = none ∨ s.resGuardTicks = none) :
    payload .deriveTiming s = .none ∧ payload .init s = .none := by
  simp only [payload, timingPayload, sessionPayload]
  rcases h with h | h <;> rw [h]
  · cases s.resGuardTicks <;> exact ⟨rfl, rfl⟩
  · cases s.resBaudDiv <;> exact ⟨rfl, rfl⟩

theorem sessionPayload_of_other_pair {s : State}
    (h : s.resBaudDiv ≠ s.baudDiv ∨ s.resGuardTicks ≠ s.guardTicks) : payload .init s = .none := by
  simp only [payload, sessionPayload]
  split
  case h_1 b g hb hg =>
    refine if_neg fun hpair => ?_
    rcases h with h | h
    · exact h (hb.trans hpair.1.symm)
    · exact h (hg.trans hpair.2.symm)
  all_goals rfl

theorem resetInFlight_eq_false {s : State} (hc : s.curOp ≠ .coldReset) (hw : s.curOp ≠ .warmReset) :
    resetInFlight s = false := by
  simp [resetInFlight, hc, hw]

theorem payload_resetOp_of_kind {k : ResetKind} {s : State} (h : resetInFlight s = false) (hk : s.rsKind = k) :
    payload (resetOp k) s = resetPayload s := by
  simp [payload_resetOp, h, hk]

theorem payload_resetOp_of_inFlight (k : ResetKind) {s : State} (h : resetInFlight s = true) :
    payload (resetOp k) s = .none := by
  simp [payload_resetOp, h]

theorem payload_resetOp_of_other_kind {k : ResetKind} {s : State} (h : s.rsKind ≠ k) :
    payload (resetOp k) s = .none := by
  simp [payload_resetOp, h]

/-- Neither a view nor a failure: no reset has answered since. -/
theorem payload_resetOp_of_none (k : ResetKind) {s : State} (hv : s.atrd = none) (hc : s.rsState ≠ .atrCaptured)
    (ht : s.rsState ≠ .atrTimeout) : payload (resetOp k) s = .none := by
  simp [payload_resetOp, resetPayload, hv, hc, ht]

theorem resetPayload_of_view {s : State} {v : AtrView} (h : s.atrd = some v) :
    resetPayload s = .atr (capturedAtr s) v := by
  simp [resetPayload, h]

theorem resetPayload_of_failure {s : State} (hv : s.atrd = none)
    (h : s.rsState = .atrCaptured ∨ s.rsState = .atrTimeout) : resetPayload s = .partialAtr (capturedAtr s) := by
  simp [resetPayload, hv, h]

theorem transferPayload_of_none {s : State} (h : s.curOp = .transfer ∨ s.sw1 = none ∨ s.sw2 = none) :
    payload .transfer s = .none := by
  simp only [payload, transferPayload]
  rcases h with h | h | h
  · exact if_pos h
  · rw [h]
    cases s.sw2 <;> simp
  · rw [h]
    cases s.sw1 <;> simp

/-! ## The payloads over a command (R331) -/

theorem resetInFlight_of_none {s : State} (h : s.curOp = .none) : resetInFlight s = false := by
  simp [resetInFlight, h]

theorem payloads_of_deriveTiming {s t : State} {d : DtArg} (hop : s.curOp = .none)
    (h : exec (.deriveTiming d) s = .next t) :
    ∀ op ∈ [Op.coldReset, .warmReset, .transfer, .decodeAtr], payload op t = payload op s := by
  have hs : s.curOp ≠ .transfer := by simp [hop]
  have hr := (resetInFlight_of_none hop).symm
  rcases execDeriveTiming_cases d s with e | ⟨-, ⟨b, g, e⟩ | e⟩ <;> cases e.symm.trans h
  · exact fun _ _ => rfl
  all_goals
    simp only [List.mem_cons, List.not_mem_nil, or_false, forall_eq_or_imp, forall_eq]
    exact ⟨payload_resetOp_congr .cold rfl hr, payload_resetOp_congr .warm rfl hr, payload_response_congr rfl hs nofun,
      payload_view_congr rfl⟩

theorem payloads_of_decodeAtr {s t : State} {bs : List Byte} (hop : s.curOp = .none)
    (h : exec (.decodeAtr bs) s = .next t) :
    ∀ op ∈ [Op.init, .deriveTiming, .coldReset, .warmReset, .transfer], payload op t = payload op s := by
  have hs : s.curOp ≠ .transfer := by simp [hop]
  have hr := (resetInFlight_of_none hop).symm
  rcases execDecodeAtr_cases bs s with e | ⟨-, -, st, d, v, e⟩ <;> cases e.symm.trans h
  · exact fun _ _ => rfl
  · simp only [List.mem_cons, List.not_mem_nil, or_false, forall_eq_or_imp, forall_eq]
    exact ⟨payload_init_congr rfl, payload_deriveTiming_congr rfl, payload_resetOp_congr .cold rfl hr,
      payload_resetOp_congr .warm rfl hr, payload_response_congr rfl hs nofun⟩

theorem payloads_of_init {s t : State} {c : CfgArg} (hop : s.curOp = .none) (h : exec (.init c) s = .next t) :
    ∀ op ∈ [Op.transfer, .decodeAtr], payload op t = payload op s := by
  have hs : s.curOp ≠ .transfer := by simp [hop]
  rcases execInit_cases c s with ⟨e, -⟩ | ⟨-, ⟨b, g, -, e⟩ | e⟩ <;> cases e.symm.trans h
  · exact fun _ _ => rfl
  all_goals
    simp only [List.mem_cons, List.not_mem_nil, or_false, forall_eq_or_imp, forall_eq]
    exact ⟨payload_response_congr rfl hs nofun, payload_view_congr rfl⟩

/-- A successful `INIT` ends a reset's response and begins its own; a failed one leaves a reset's. -/
theorem resetPayloads_of_init {s t : State} {c : CfgArg} (hop : s.curOp = .none) (hb : s.busy = false)
    (h : exec (.init c) s = .next t) :
    (t.rspStatus = .ok → payload .coldReset t = .none ∧ payload .warmReset t = .none ∧
      ∃ b g, payload .init t = .session 0 b g) ∧
    (t.rspStatus ≠ .ok → payload .coldReset t = payload .coldReset s ∧ payload .warmReset t = payload .warmReset s) := by
  rcases execInit_cases c s with ⟨-, e⟩ | ⟨-, ⟨b, g, -, e⟩ | e⟩
  · cases hb.symm.trans e
  · cases e.symm.trans h
    refine ⟨fun _ => ⟨payload_resetOp_of_none .cold rfl nofun nofun, payload_resetOp_of_none .warm rfl nofun nofun,
      b, g, ?_⟩, fun hne => absurd rfl hne⟩
    simp [payload, sessionPayload, startSession, chApply]
  · cases e.symm.trans h
    have hr := (resetInFlight_of_none hop).symm
    exact ⟨nofun, fun _ => ⟨payload_resetOp_congr .cold rfl hr, payload_resetOp_congr .warm rfl hr⟩⟩

theorem exec_resets {i : Instr} (hi : i ∈ [Instr.coldReset, .warmReset]) (s : State) :
    ∃ k, exec i s = .next (resetCommand k s) := by
  simp only [List.mem_cons, List.not_mem_nil, or_false] at hi
  rcases hi with rfl | rfl
  · exact ⟨.cold, rfl⟩
  · exact ⟨.warm, rfl⟩

theorem resetKeeps_acceptReset (k : ResetKind) (s : State) : ResetKeeps s (acceptReset k s) :=
  ⟨rfl, rfl, rfl, by cases k <;> nofun⟩

theorem payloads_of_reset {s t : State} {i : Instr} (hop : s.curOp = .none)
    (hi : i ∈ [Instr.coldReset, .warmReset]) (h : exec i s = .next t) :
    ∀ op ∈ [Op.init, .deriveTiming, .transfer, .decodeAtr], payload op t = payload op s := by
  have hs : s.curOp ≠ .transfer := by simp [hop]
  obtain ⟨k, hk⟩ := exec_resets hi s
  cases hk.symm.trans h
  rcases resetCommand_accepted k s with e | ⟨-, -, -, e⟩ | ⟨-, hx, -⟩
  · rw [e]
    exact fun _ _ => rfl
  · rw [e]
    exact (resetKeeps_acceptReset k s).payloads hs
  · exact absurd hx hs

/-- A pre-empting reset ends the transfer's response with the transfer (R296). -/
theorem payloads_of_preemption {s t : State} {i : Instr} (hop : s.curOp = .transfer) (hb : s.busy = true)
    (hi : i ∈ [Instr.coldReset, .warmReset]) (h : exec i s = .next t) :
    payload .transfer t = .none ∧ ∀ op ∈ [Op.init, .deriveTiming, .decodeAtr], payload op t = payload op s := by
  obtain ⟨k, hk⟩ := exec_resets hi s
  have e : resetCommand k s = acceptReset k (dropTransfer s) := by
    cases k <;> simp [resetCommand, accepts, resetOp, transferInFlight, hop, hb]
  cases hk.symm.trans h
  rw [e]
  refine ⟨transferPayload_of_none (.inr (.inl rfl)), ?_⟩
  simp only [List.mem_cons, List.not_mem_nil, or_false, forall_eq_or_imp, forall_eq]
  exact ⟨payload_init_congr rfl, payload_deriveTiming_congr rfl, payload_view_congr rfl⟩

theorem payloads_of_transfer {s t : State} {cla ins p1 p2 p3 : Byte} {data : List Byte} {i : Instr}
    (hop : s.curOp = .none) (hi : i ∈ [Instr.transfer cla ins p1 p2 p3, .transferD cla ins p1 p2 p3 data])
    (h : exec i s = .next t) :
    ∀ op ∈ [Op.init, .deriveTiming, .coldReset, .warmReset, .decodeAtr], payload op t = payload op s := by
  rcases execTransfer_cases cla ins p1 p2 p3 data s (by simpa using hi) with e | ⟨-, -, dp, bs, -, e⟩ <;>
    cases e.symm.trans h
  · exact fun _ _ => rfl
  · exact TransferKeeps.payloads ⟨rfl, rfl, rfl, rfl⟩ (resetInFlight_of_none hop)

/-- The end of a transfer, with a response or an error. -/
theorem payloads_of_transfer_end {s t : State} {i : Instr} (hop : s.curOp = .transfer)
    (hi : i ∈ [Instr.statusOk, .statusParityExhausted, .statusCardTimeout, .statusProtocolViolation])
    (h : exec i s = .next t) :
    ∀ op ∈ [Op.init, .deriveTiming, .coldReset, .warmReset, .decodeAtr], payload op t = payload op s := by
  have hs : resetInFlight s = false := by simp [resetInFlight, hop]
  simp only [List.mem_cons, List.not_mem_nil, or_false] at hi
  rcases hi with rfl | rfl | rfl | rfl <;> cases h
  · exact (transferKeeps_statusOk hop).payloads hs
  all_goals exact (transferKeeps_fails s _).payloads hs

/-! ## O60 -/

/-- Settles O60: the view by `readView`'s numbers, the payloads by their places and what keeps them. -/
theorem statusViewReads : Obligations.StatusViewReads := by
  refine ⟨fun s t h ht no => statusView_held h ht no, fun s hm => ?view,
    fun s => ⟨?timing, timingPayload_of_none, sessionPayload_of_other_pair, ?atr, ?partialAtr, ?resetting, ?noReset,
      payload_resetOp_of_other_kind (k := .cold) ∘ ?notCold, payload_resetOp_of_other_kind (k := .warm) ∘ ?notWarm,
      ?decoded, ?notDecoded, ?response, transferPayload_of_none, ?overCommands, ?overTransfer⟩,
    fun s t hsafe h => ⟨fun hop hreset => ?inReset, fun hop hmove => ?inTransfer⟩⟩
  case view =>
    simp only [statusView_of_boundary hm]
    refine ⟨?_, viewBool_eq _, ?_, ?_, ?_, ?_, ?_, ?_, viewBool_eq _, viewBool_eq _, viewBool_eq _, rfl, viewBool_eq _,
      ?_, ?_, rfl, rfl, rfl, fun h => ⟨inSession_of_none h _, inSession_of_none h _, inSession_of_none h _⟩,
      fun b hs hb => ?_, fun g hs hg => ?_, fun c hs hc => ?_, rfl, rfl, fun no hno => readView_reserved hno _⟩
    · show viewBits (sessStateCode s.sessState) = _
      cases s.sessState <;> rfl
    · show viewBits (ownerCode s.owner) = _
      cases s.owner <;> rfl
    · show viewBits (opCode s.curOp) = _
      cases s.curOp <;> rfl
    · show viewBits (rsStateCode s.rsState) = _
      cases s.rsState <;> rfl
    · show viewBits (rsKindCode s.rsKind) = _
      cases s.rsKind <;> rfl
    · show viewBits (xferStateCode s.xferState) = _
      cases s.xferState <;> rfl
    · show (s.xcase.bind fun c => viewBits (xcaseCode c)) = _
      rcases s.xcase with _ | _ | _ | _ <;> rfl
    · show viewBits (statusCode s.rspStatus) = _
      cases s.rspStatus <;> rfl
    · show viewBits s.rspDetail.code = _
      cases s.rspDetail <;> rfl
    · show inSession (statusRegs s) (s.baudDiv.bind viewBits) = _
      rw [inSession_of_ne_none hs, hb]
      rfl
    · show inSession (statusRegs s) (s.guardTicks.bind viewBits) = _
      rw [inSession_of_ne_none hs, hg]
      rfl
    · refine ⟨packedCfg c s.cfgMaxIterations, ?_, ?_⟩
      · show inSession (statusRegs s) (s.cfg.map fun c => packedCfg c s.cfgMaxIterations) = _
        rw [inSession_of_ne_none hs, hc]
        rfl
      · simp [packedCfg, cfgOfWord_cfgToWord, cfgOfArg]
  case timing =>
    intro b g hb hg
    refine ⟨by simp [payload, timingPayload, hb, hg], fun hb' hg' => ?_⟩
    simp [payload, sessionPayload, hb, hg, hb', hg']
  case atr =>
    intro v hc hw hv
    have hr := resetInFlight_eq_false hc hw
    exact ⟨fun hk => (payload_resetOp_of_kind hr hk).trans (resetPayload_of_view hv),
      fun hk => (payload_resetOp_of_kind hr hk).trans (resetPayload_of_view hv)⟩
  case partialAtr =>
    intro hc hw hv hs
    have hr := resetInFlight_eq_false hc hw
    exact ⟨fun hk => (payload_resetOp_of_kind hr hk).trans (resetPayload_of_failure hv hs),
      fun hk => (payload_resetOp_of_kind hr hk).trans (resetPayload_of_failure hv hs)⟩
  case resetting =>
    intro hop
    have hr : resetInFlight s = true := by simpa [resetInFlight] using hop
    exact ⟨payload_resetOp_of_inFlight .cold hr, payload_resetOp_of_inFlight .warm hr⟩
  case noReset =>
    exact fun hv hc ht => ⟨payload_resetOp_of_none .cold hv hc ht, payload_resetOp_of_none .warm hv hc ht⟩
  case notCold => exact fun hk => by simp [hk]
  case notWarm => exact fun hk => by simp [hk]
  case decoded => exact fun v hv => by simp [payload, hv]
  case notDecoded => exact fun hv => by simp [payload, hv]
  case response => exact fun a b hop ha hb => by simp [payload, transferPayload, responseData, hop, ha, hb]
  case overCommands =>
    exact fun hop => ⟨fun _ _ => payloads_of_deriveTiming hop, fun _ _ => payloads_of_decodeAtr hop,
      fun _ _ => payloads_of_init hop, fun _ _ hb => resetPayloads_of_init hop hb,
      fun _ hi _ => payloads_of_reset hop hi, fun _ _ _ _ _ _ _ hi _ => payloads_of_transfer hop hi⟩
  case overTransfer =>
    exact fun hop => ⟨fun _ hi _ => payloads_of_transfer_end hop hi,
      fun hb _ hi _ => payloads_of_preemption hop hb hi⟩
  case inReset =>
    have howner : s.owner = .rs := by rw [(owner_of_safe hsafe).1]; rcases hop with e | e <;> rw [e] <;> rfl
    have f := inReset_of_safe hsafe howner
    exact (resetKeeps_step hsafe f h hreset).payloads f.op_ne_transfer
  case inTransfer =>
    have howner : s.owner = .xfer := by rw [(owner_of_safe hsafe).1, hop]; rfl
    obtain ⟨hd, c, f⟩ := inTransfer_of_safe hsafe howner
    exact (transferKeeps_step hsafe f h hmove).payloads (by simp [resetInFlight, hop])

end Sys2Proof.Machine
end

section
/-! The four buffers in every state: what a line can make of a buffer, and a walk over the lines for which one it is. -/

namespace Sys2Proof.Machine

/-! ## The full ATR buffer (20_memory.md R71, R75) -/

/-- `captureAtr_of_room` without the room: the append has no index to write to. -/
theorem captureAtr_of_full {s : State} (h : Config.atrMax ≤ s.atrLen.toNat) (b : Byte) :
    captureAtr b s = .fault .bufferRange := by
  simp only [captureAtr, memStore, if_neg h.not_gt]

/-- Settles O22: each of the five rows, and the line without a format, is the capture of its character. -/
theorem atrFullFaults : Obligations.AtrFullFaults := by
  intro s y1 k y t tck hfull
  have hcapture : ∀ b, captureAtr b s = .fault .bufferRange := captureAtr_of_full hfull
  refine ⟨fun i hi => ?rows, fun hmove htodo => ?line⟩
  case rows =>
    simp only [List.mem_cons, List.not_mem_nil, or_false] at hi
    rcases hi with rfl | rfl | rfl | rfl | rfl <;> exact hcapture _
  case line => rw [step_of_no_move hmove, htodo, runFlight, hcapture, holdShownResult]

/-! ## What becomes of a buffer -/

/-- All a line can make of a buffer: leave it, fill it anew from bytes (from none, empty it), or write one byte. -/
inductive BufferMove (m : Memory) : Memory → Prop
  | kept : BufferMove m m
  | filled (bs : List Byte) : BufferMove m (memOfBytes bs)
  | written (i : Nat) (v : Byte) : BufferMove m (memWrite m i v)

theorem BufferMove.wf {m m' : Memory} (h : BufferMove m m') (hm : m.wf = true) : m'.wf = true := by
  cases h with
  | kept => exact hm
  | filled bs => exact memOfBytes_wf bs
  | written i v => exact memWrite_wf m i v hm

/-- Each of the four buffers is left, filled anew or written. -/
structure BuffersMove (s t : State) : Prop where
  atr : BufferMove s.atr t.atr
  dout : BufferMove s.dout t.dout
  rsp : BufferMove s.rsp t.rsp
  raw : BufferMove s.raw t.raw

theorem BuffersMove.canonical {s t : State} (h : BuffersMove s t) (hs : buffersCanonical s = true) :
    buffersCanonical t = true := by
  simp only [buffersCanonical, Bool.and_eq_true] at hs ⊢
  obtain ⟨⟨⟨hatr, hdout⟩, hrsp⟩, hraw⟩ := hs
  exact ⟨⟨⟨h.atr.wf hatr, h.dout.wf hdout⟩, h.rsp.wf hrsp⟩, h.raw.wf hraw⟩

/-- The four buffers together. -/
def buffers (s : State) : Memory × Memory × Memory × Memory := (s.atr, s.dout, s.rsp, s.raw)

theorem BuffersMove.refl (s : State) : BuffersMove s s := ⟨.kept, .kept, .kept, .kept⟩

theorem BuffersMove.congr {s t u : State} (h : BuffersMove s u) (e : buffers t = buffers u) : BuffersMove s t := by
  simp only [buffers, Prod.mk.injEq] at e
  obtain ⟨hatr, hdout, hrsp, hraw⟩ := e
  exact ⟨hatr ▸ h.atr, hdout ▸ h.dout, hrsp ▸ h.rsp, hraw ▸ h.raw⟩

theorem buffersMove_of_kept {s t : State} (h : buffers t = buffers s) : BuffersMove s t := (BuffersMove.refl s).congr h

/-! ## The Reset Sequencer's lines -/

theorem buffers_runContact (c : Contact) (s : State) : buffers (runContact c s) = buffers s := by
  cases c <;> rfl

theorem buffers_atrProgress (s : State) : buffers (atrProgress s) = buffers s := by
  rcases atrProgress_cases s with ⟨v, -, e⟩ | ⟨r, -, -, e⟩ | ⟨d, e⟩ | ⟨-, e⟩ <;> rw [e] <;> rfl

theorem buffers_atrTimeout (s : State) : buffers (atrTimeout s) = buffers s := by
  unfold atrTimeout
  split <;> rfl

theorem buffers_atrByte (b : Byte) (s : State) : buffers (atrByte b s) = buffers s := by
  rcases atrByte_cases b s with ⟨-, e⟩ | ⟨-, e⟩ <;> rw [e] <;> rfl

theorem buffersMove_captureAtr {b : Byte} {s t : State} (h : captureAtr b s = .next t) : BuffersMove s t := by
  obtain ⟨-, rfl⟩ := captureAtr_eq_next h
  have happend : BuffersMove s (appendAtr b s) := ⟨.written _ _, .kept, .kept, .kept⟩
  exact happend.congr (buffers_atrProgress (appendAtr b s))

/-! ## The Transfer Engine's lines -/

theorem buffers_dataOutLoop (s : State) : buffers (dataOutLoop s) = buffers s := by
  unfold dataOutLoop
  split <;> rfl

theorem buffers_dataInLoop (s : State) : buffers (dataInLoop s) = buffers s := by
  unfold dataInLoop
  split <;> rfl

theorem buffers_ackReaction (s : State) : buffers (ackReaction s) = buffers s := by
  rcases ackReaction_cases s with ⟨-, e⟩ | ⟨-, e⟩ | ⟨-, e⟩ <;> rw [e]
  · rfl
  · exact buffers_dataOutLoop _
  · exact buffers_dataInLoop _

theorem buffers_sentByte (s : State) : buffers (sentByte s) = buffers s := by
  unfold sentByte
  split
  case h_2 => exact buffers_dataOutLoop _
  all_goals rfl

theorem buffers_statusByte (b : Byte) (s : State) : buffers (statusByte b s) = buffers s := by
  rcases statusByte_cases b s with ⟨-, e⟩ | ⟨-, e⟩ <;> rw [e] <;> rfl

theorem buffers_procedureByte (b : Byte) (s : State) : buffers (procedureByte b s) = buffers s := by
  rcases procedureByte_cases b s with ⟨-, e⟩ | ⟨-, e⟩ <;> rw [e] <;> rfl

theorem buffersMove_dataInByte {b : Byte} {s t : State} (h : dataInByte b s = .next t) : BuffersMove s t := by
  rcases dataInByte_eq_next h with ⟨-, -, rfl⟩ | ⟨-, rfl⟩
  · have hstore : BuffersMove s { s with rsp := memWrite s.rsp s.idx.toNat b, idx := s.idx + 1 } :=
      ⟨.kept, .kept, .written _ _, .kept⟩
    exact hstore.congr (buffers_dataInLoop _)
  · exact buffersMove_of_kept (buffers_statusByte b s)

theorem buffersMove_xferByte {b : Byte} {s t : State} (h : xferByte b s = .next t) : BuffersMove s t := by
  unfold xferByte at h
  split at h
  case h_3 => exact buffersMove_dataInByte h
  all_goals cases h
  · exact buffersMove_of_kept (buffers_procedureByte b s)
  · exact buffersMove_of_kept (buffers_statusByte b s)
  all_goals exact buffersMove_of_kept rfl

theorem buffersMove_execTpduHdr {cla ins p1 p2 p3 : Byte} {s t : State} (h : execTpduHdr cla ins p1 p2 p3 s = .next t) :
    BuffersMove s t := by
  unfold execTpduHdr at h
  split at h <;> cases h <;> exact buffersMove_of_kept rfl

/-! ## The micro-operations -/

theorem buffersMove_rxByte {b : Byte} {s t : State} (h : rxByte b s = .next t) : BuffersMove s t := by
  unfold rxByte at h
  split at h
  case h_2 => exact buffersMove_xferByte h
  all_goals cases h
  · exact buffersMove_of_kept (buffers_atrByte b s)
  · exact buffersMove_of_kept rfl

theorem buffers_rxTimeout (s : State) : buffers (rxTimeout s) = buffers s := by
  unfold rxTimeout
  split
  · exact buffers_atrTimeout s
  all_goals rfl

theorem buffers_rxExhausted (s : State) : buffers (rxExhausted s) = buffers s := by
  unfold rxExhausted
  split <;> rfl

theorem buffers_tryRecv (wait : Nat) (dl : Option Nat) (s : State) : buffers (tryRecv wait dl s) = buffers s := by
  rcases tryRecv_cases wait dl s with e | e <;> rw [e]
  · exact buffers_rxTimeout s
  · rfl

theorem buffersMove_execTxChar {b : Byte} {s t : State} (h : execTxChar b s = .next t) : BuffersMove s t := by
  rcases execTxChar_cases b s with e | e | ⟨n, -, e⟩ <;> cases e.symm.trans h
  · exact buffersMove_of_kept (buffers_sentByte s)
  · exact buffersMove_of_kept rfl
  · exact buffersMove_of_kept rfl

theorem buffersMove_execRxChar {wait : Nat} {dl : Option Nat} {s t : State} (h : execRxChar wait dl s = .next t) :
    BuffersMove s t := by
  rcases execRxChar_cases wait dl s with ⟨b, e⟩ | e | e | ⟨b, -, -, e⟩ | ⟨n, -, e⟩ <;> rw [e] at h
  · exact buffersMove_rxByte h
  all_goals cases h
  · exact buffersMove_of_kept (buffers_rxTimeout s)
  · exact buffersMove_of_kept (buffers_rxExhausted s)
  · exact buffersMove_of_kept rfl
  · exact buffersMove_of_kept (buffers_tryRecv wait dl { s with retry := n })

/-! ## The commands (R71, R72, R74) and the responses (R286 to R291) -/

theorem buffersMove_execInit {c : CfgArg} {s t : State} (h : execInit c s = .next t) : BuffersMove s t := by
  rcases execInit_cases c s with ⟨e, -⟩ | ⟨-, ⟨b, g, -, e⟩ | e⟩ <;> cases e.symm.trans h
  · exact .refl s
  · exact ⟨.filled [], .kept, .kept, .kept⟩
  · exact buffersMove_of_kept rfl

theorem buffersMove_execDeriveTiming {d : DtArg} {s t : State} (h : execDeriveTiming d s = .next t) :
    BuffersMove s t := by
  rcases execDeriveTiming_cases d s with e | ⟨-, ⟨b, g, e⟩ | e⟩ <;> cases e.symm.trans h
  · exact .refl s
  · exact buffersMove_of_kept rfl
  · exact buffersMove_of_kept rfl

theorem buffersMove_execDecodeAtr {bs : List Byte} {s t : State} (h : execDecodeAtr bs s = .next t) :
    BuffersMove s t := by
  rcases execDecodeAtr_cases bs s with e | ⟨-, -, st, d, v, e⟩ <;> cases e.symm.trans h
  · exact .refl s
  · exact ⟨.kept, .kept, .kept, .filled bs⟩

theorem buffersMove_resetCommand (k : ResetKind) (s : State) : BuffersMove s (resetCommand k s) := by
  rcases resetCommand_cases k s with ⟨-, e⟩ | ⟨-, -, e⟩ | ⟨-, -, e⟩ <;> rw [e]
  · exact .refl s
  · exact ⟨.filled [], .filled [], .filled [], .kept⟩
  · exact ⟨.filled [], .kept, .kept, .kept⟩

theorem buffersMove_transfer {cla ins p1 p2 p3 : Byte} {data : List Byte} {i : Instr} {s t : State}
    (hi : i = .transfer cla ins p1 p2 p3 ∨ i = .transferD cla ins p1 p2 p3 data) (h : exec i s = .next t) :
    BuffersMove s t := by
  rcases execTransfer_cases cla ins p1 p2 p3 data s hi with e | ⟨-, -, dp, bs, -, e⟩ <;> cases e.symm.trans h
  · exact .refl s
  · exact ⟨.kept, .filled bs, .filled [], .kept⟩

theorem buffersMove_retireCommand (s : State) : BuffersMove s (retireCommand s) := by
  unfold retireCommand
  split
  case h_1 => exact ⟨.kept, .filled [], .kept, .kept⟩
  all_goals exact .refl s

theorem buffers_failAtr (s : State) : buffers (failAtr s) = buffers s := by
  unfold failAtr
  split <;> rfl

theorem buffersMove_raiseTransferError (st : Status) (s : State) : BuffersMove s (raiseTransferError st s) :=
  ⟨.kept, .filled [], .filled [], .kept⟩

/-! ## The step -/

theorem exec_buffersMove {i : Instr} {s t : State} (h : exec i s = .next t) : BuffersMove s t := by
  cases i with
  | init _ => exact buffersMove_execInit h
  | deriveTiming _ => exact buffersMove_execDeriveTiming h
  | decodeAtr _ => exact buffersMove_execDecodeAtr h
  | coldReset => cases h; exact buffersMove_resetCommand .cold s
  | warmReset => cases h; exact buffersMove_resetCommand .warm s
  | transfer _ _ _ _ _ => exact buffersMove_transfer (data := []) (.inl rfl) h
  | transferD _ _ _ _ _ _ => exact buffersMove_transfer (.inr rfl) h
  | reservedOp0 _ => cases h; exact .refl s
  | reservedOp7 _ => cases h; exact .refl s
  | tpduHdr _ _ _ _ _ => exact buffersMove_execTpduHdr h
  | procNull => cases h; exact buffersMove_of_kept rfl
  | procAck _ => cases h; exact buffersMove_of_kept (buffers_ackReaction s)
  | procAckInv _ => cases h; exact buffersMove_of_kept (buffers_ackReaction s)
  | procSw1 _ => cases h; exact buffersMove_of_kept rfl
  | atrTsDirect => exact buffersMove_captureAtr h
  | atrTsInverse => exact buffersMove_captureAtr h
  | atrT0 _ _ => exact buffersMove_captureAtr h
  | atrTd _ _ => exact buffersMove_captureAtr h
  | atrTck _ => exact buffersMove_captureAtr h
  | txChar _ => exact buffersMove_execTxChar h
  | rxChar _ _ => exact buffersMove_execRxChar h
  | statusOk => cases h; exact (buffersMove_retireCommand s).congr rfl
  | statusConfigError => cases h; exact buffersMove_of_kept rfl
  | statusNoCardResponse => cases h; exact buffersMove_of_kept rfl
  | statusMalformedAtr _ => cases h; exact buffersMove_of_kept (buffers_failAtr s)
  | statusChecksumError => cases h; exact buffersMove_of_kept (buffers_failAtr s)
  | statusParityExhausted => cases h; exact buffersMove_raiseTransferError _ s
  | statusCardTimeout => cases h; exact buffersMove_raiseTransferError _ s
  | statusProtocolViolation => cases h; exact buffersMove_raiseTransferError _ s

theorem runFlight_buffersMove {td : Todo} {s t : State} (h : runFlight td s = .next t) : BuffersMove s t := by
  cases td with
  | idle => cases h; exact buffersMove_of_kept rfl
  | contact c => cases h; exact buffersMove_of_kept (buffers_runContact c s)
  | flush => cases h; exact buffersMove_of_kept rfl
  | capture _ => exact buffersMove_captureAtr h
  | micro _ => exact exec_buffersMove h

theorem runCommand_buffersMove {bs : List Byte} {s t : State} (h : runCommand bs s = .next t) : BuffersMove s t := by
  rcases runCommand_cases bs s with ⟨i, -, e⟩ | e
  · exact exec_buffersMove (e.symm.trans h)
  · cases e.symm.trans h
    exact .refl s

/-- A hardware reset empties the four buffers (R64); taking the host's move and holding the view touch none of them. -/
theorem step_buffersMove {s t : State} (h : step s = .next t) : BuffersMove s t := by
  rcases step_cases s with ⟨-, e⟩ | ⟨bs, -, e⟩ | ⟨-, -, e⟩ <;> rw [e] at h
  · cases h
    exact ⟨.filled [], .filled [], .filled [], .filled []⟩
  · obtain ⟨hatr, hdout, hrsp, hraw⟩ := runCommand_buffersMove h
    exact ⟨hatr, hdout, hrsp, hraw⟩
  · obtain ⟨u, hu, rfl⟩ := holdShownResult_eq_next h
    exact (runFlight_buffersMove hu).congr rfl

/-- Settles O52: whatever the step, each buffer is left, filled anew or written one byte, which all keep its form. -/
theorem canonicalBuffersKept : Obligations.CanonicalBuffersKept :=
  fun _ _ hs h => (step_buffersMove h).canonical hs

end Sys2Proof.Machine
end

section
/-! The decoder and the encoder undo each other: first the words taken apart and put together, then each argument block,
then the command byte (30_encoding.md). -/

namespace Sys2Proof

/-! ## Words and their pieces -/

/-- The piece of a word above another, put before it. -/
theorem append_piece {w start mid hi lo : Nat} {v : BitVec w} {x : BitVec hi} (h : x = v.extractLsb' mid hi)
    (hmid : mid = start + lo) : x ++ v.extractLsb' start lo = v.extractLsb' start (hi + lo) := by
  rw [h, BitVec.extractLsb'_append_extractLsb'_eq_extractLsb' hmid]

theorem join_cfgBytes (w : BitVec 96) :
    byteOf w 11 ++ byteOf w 10 ++ byteOf w 9 ++ byteOf w 8 ++ byteOf w 7 ++ byteOf w 6 ++ byteOf w 5 ++
      byteOf w 4 ++ byteOf w 3 ++ byteOf w 2 ++ byteOf w 1 ++ byteOf w 0 = w := by
  refine Eq.trans ?_ BitVec.extractLsb'_eq_self
  repeat refine append_piece ?_ rfl
  rfl

theorem cfgBytes_join (b0 b1 b2 b3 b4 b5 b6 b7 b8 b9 b10 b11 : Byte) :
    cfgBytes (b11 ++ b10 ++ b9 ++ b8 ++ b7 ++ b6 ++ b5 ++ b4 ++ b3 ++ b2 ++ b1 ++ b0) =
      [b0, b1, b2, b3, b4, b5, b6, b7, b8, b9, b10, b11] := by
  simp (disch := omega) only [cfgBytes, byteOf, BitVec.extractLsb'_append_eq_of_le,
    BitVec.extractLsb'_append_eq_of_add_le, BitVec.extractLsb'_eq_self, Nat.reduceSub, Nat.reduceMul]

theorem cfgToWord_cfgOfWord (w : BitVec 96) : cfgToWord (cfgOfWord w) = w := by
  refine Eq.trans ?_ BitVec.extractLsb'_eq_self
  repeat refine append_piece ?_ rfl
  rfl

theorem join_dtBytes (w : BitVec 64) :
    byteOf w 7 ++ byteOf w 6 ++ byteOf w 5 ++ byteOf w 4 ++ byteOf w 3 ++ byteOf w 2 ++ byteOf w 1 ++ byteOf w 0 =
      w := by
  refine Eq.trans ?_ BitVec.extractLsb'_eq_self
  repeat refine append_piece ?_ rfl
  rfl

theorem dtBytes_join (b0 b1 b2 b3 b4 b5 b6 b7 : Byte) :
    dtBytes (b7 ++ b6 ++ b5 ++ b4 ++ b3 ++ b2 ++ b1 ++ b0) = [b0, b1, b2, b3, b4, b5, b6, b7] := by
  simp (disch := omega) only [dtBytes, byteOf, BitVec.extractLsb'_append_eq_of_le,
    BitVec.extractLsb'_append_eq_of_add_le, BitVec.extractLsb'_eq_self, Nat.reduceSub, Nat.reduceMul]

theorem dtOfWord_dtToWord (d : DtArg) : dtOfWord (dtToWord d) = d := by
  cases d
  simp (disch := omega) only [dtOfWord, dtToWord, BitVec.extractLsb'_append_eq_of_le,
    BitVec.extractLsb'_append_eq_of_add_le, BitVec.extractLsb'_eq_self, Nat.reduceSub]

theorem dtToWord_dtOfWord (w : BitVec 64) : dtToWord (dtOfWord w) = w := by
  refine Eq.trans ?_ BitVec.extractLsb'_eq_self
  repeat refine append_piece ?_ rfl
  rfl

/-- A command byte by its reserved bits, `dp` and the op code (R103). -/
theorem commandByte_eq (cmd : Byte) : hiNibble cmd ++ cmd.extractLsb' 3 1 ++ cmd.extractLsb' 0 3 = cmd := by
  refine Eq.trans ?_ BitVec.extractLsb'_eq_self
  repeat refine append_piece ?_ rfl
  rfl

/-- A command byte by the bits that a reserved op code leaves free, and the op code (R127). -/
theorem reservedByte_eq (cmd : Byte) : cmd.extractLsb' 3 5 ++ cmd.extractLsb' 0 3 = cmd :=
  Eq.trans (append_piece rfl rfl) BitVec.extractLsb'_eq_self

@[simp] theorem hiNibble_joinNibbles (hi lo : BitVec 4) : hiNibble (joinNibbles hi lo) = hi := by
  rw [hiNibble, joinNibbles, BitVec.extractLsb'_append_eq_of_le le_rfl, BitVec.extractLsb'_eq_self]

@[simp] theorem loNibble_joinNibbles (hi lo : BitVec 4) : loNibble (joinNibbles hi lo) = lo := by
  rw [loNibble, joinNibbles, BitVec.extractLsb'_append_eq_of_add_le le_rfl, BitVec.extractLsb'_eq_self]

/-! ## The argument blocks, encoded and decoded -/

theorem decodeInit_encode (c : CfgArg) (rest : List Byte) :
    decodeInit (cfgBytes (cfgToWord c) ++ rest) = .ok (.init c, rest) := by
  simp only [cfgBytes, List.cons_append, List.nil_append, decodeInit, join_cfgBytes, Machine.cfgOfWord_cfgToWord]

theorem decodeDerive_encode (d : DtArg) (rest : List Byte) :
    decodeDerive (dtBytes (dtToWord d) ++ rest) = .ok (.deriveTiming d, rest) := by
  simp only [dtBytes, List.cons_append, List.nil_append, decodeDerive, join_dtBytes, dtOfWord_dtToWord]

theorem decodeTransferD_encode {cla ins p1 p2 p3 : Byte} {data : List Byte} (h : data.length = p3.toNat)
    (rest : List Byte) :
    decodeTransferD (cla :: ins :: p1 :: p2 :: p3 :: BitVec.ofNat 8 data.length :: (data ++ rest)) =
      .ok (.transferD cla ins p1 p2 p3 data, rest) := by
  have hd : BitVec.ofNat 8 data.length = p3 := by rw [h, BitVec.ofNat_toNat, BitVec.setWidth_eq]
  simp [decodeTransferD, hd, ← h]

theorem decodeRaw_encode {raw : List Byte} (h : raw.length ≤ Config.atrMax) (rest : List Byte) :
    decodeRaw (BitVec.ofNat 8 raw.length :: (raw ++ rest)) = .ok (.decodeAtr raw, rest) := by
  simp [decodeRaw, Machine.toNat_ofNat_of_le_atrMax h, Nat.not_lt.mpr h]

/-! ## The argument blocks, decoded and encoded -/

theorem eq_encode_of_decodeInit {bs rest : List Byte} {i : Instr} (h : decodeInit bs = .ok (i, rest)) :
    ∃ c, i = .init c ∧ bs = cfgBytes (cfgToWord c) ++ rest := by
  unfold decodeInit at h
  split at h <;> cases h
  exact ⟨_, rfl, by rw [cfgToWord_cfgOfWord, cfgBytes_join]; rfl⟩

theorem eq_encode_of_decodeDerive {bs rest : List Byte} {i : Instr} (h : decodeDerive bs = .ok (i, rest)) :
    ∃ d, i = .deriveTiming d ∧ bs = dtBytes (dtToWord d) ++ rest := by
  unfold decodeDerive at h
  split at h <;> cases h
  exact ⟨_, rfl, by rw [dtToWord_dtOfWord, dtBytes_join]; rfl⟩

theorem eq_encode_of_decodeTransfer {bs rest : List Byte} {i : Instr} (h : decodeTransfer bs = .ok (i, rest)) :
    ∃ cla ins p1 p2 p3, i = .transfer cla ins p1 p2 p3 ∧ bs = [cla, ins, p1, p2, p3] ++ rest := by
  unfold decodeTransfer at h
  split at h <;> cases h
  exact ⟨_, _, _, _, _, rfl, rfl⟩

theorem eq_encode_of_decodeTransferD {bs rest : List Byte} {i : Instr} (h : decodeTransferD bs = .ok (i, rest)) :
    ∃ cla ins p1 p2 p3 data, i = .transferD cla ins p1 p2 p3 data ∧ data.length = p3.toNat ∧
      bs = [cla, ins, p1, p2, p3, BitVec.ofNat 8 data.length] ++ data ++ rest := by
  unfold decodeTransferD at h
  split at h
  case h_2 => cases h
  case h_1 cla ins p1 p2 p3 dlen more =>
  split_ifs at h with hne hshort
  cases h
  obtain rfl : dlen = p3 := by simpa using hne
  have hlen : (more.take dlen.toNat).length = dlen.toNat := by simpa using hshort
  refine ⟨cla, ins, p1, p2, dlen, _, rfl, hlen, ?_⟩
  simp [hlen]

theorem eq_encode_of_decodeRaw {bs rest : List Byte} {i : Instr} (h : decodeRaw bs = .ok (i, rest)) :
    ∃ raw, i = .decodeAtr raw ∧ raw.length ≤ Config.atrMax ∧ bs = [BitVec.ofNat 8 raw.length] ++ raw ++ rest := by
  unfold decodeRaw at h
  split at h
  case h_2 => cases h
  case h_1 n more =>
  split_ifs at h with hmax hshort
  cases h
  have hlen : (more.take n.toNat).length = n.toNat := by simpa using hshort
  exact ⟨_, rfl, by omega, by simp [hlen]⟩

/-! ## The command byte (R103) -/

/-- A command byte with no reserved bit set is `dp` and its op code. -/
theorem commandByte_of_fields {cmd : Byte} {op : BitVec 3} {dp : BitVec 1} (hres : hiNibble cmd = 0)
    (hdp : cmd.extractLsb' 3 1 = dp) (hop : cmd.extractLsb' 0 3 = op) : cmd = (0 : BitVec 4) ++ dp ++ op := by
  rw [← hres, ← hdp, ← hop, commandByte_eq]

theorem opCode_eq_six : ∀ op : BitVec 3, op ≠ 0 → op ≠ 7 → op ≠ 1 → op ≠ 2 → op ≠ 3 → op ≠ 4 → op ≠ 5 → op = 6 := by
  bv_omega

/-- Settles O2: a command byte that is not refused is fixed by its op code and `dp`; each argument block that decodes is
its encoding. -/
theorem encodeOfDecode : Obligations.EncodeOfDecode := by
  intro bs rest i h
  suffices henc : i.wf = true ∧ bs = encode i ++ rest from
    ⟨henc.1, Machine.isCommand_of_decodeCommand h, henc.2⟩
  cases bs with
  | nil => cases h
  | cons cmd args =>
    simp only [decodeCommand] at h
    split_ifs at h with h0 h7 hres hdp h5 h1 h2 h3 h4 h5
    · cases h
      exact ⟨rfl, by rw [encode, ← h0, reservedByte_eq]; rfl⟩
    · cases h
      exact ⟨rfl, by rw [encode, ← h7, reservedByte_eq]; rfl⟩
    all_goals have hres : hiNibble cmd = 0 := by simpa using hres
    · obtain ⟨cla, ins, p1, p2, p3, data, rfl, hlen, rfl⟩ := eq_encode_of_decodeTransferD h
      exact ⟨by simpa [Instr.wf] using hlen, by rw [commandByte_of_fields hres hdp h5]; rfl⟩
    all_goals have hdp : cmd.extractLsb' 3 1 = 0 := (BitVec.eq_zero_or_eq_one _).resolve_right hdp
    · obtain ⟨c, rfl, rfl⟩ := eq_encode_of_decodeInit h
      exact ⟨rfl, by rw [commandByte_of_fields hres hdp h1]; rfl⟩
    · obtain ⟨d, rfl, rfl⟩ := eq_encode_of_decodeDerive h
      exact ⟨rfl, by rw [commandByte_of_fields hres hdp h2]; rfl⟩
    · cases h
      exact ⟨rfl, by rw [commandByte_of_fields hres hdp h3]; rfl⟩
    · cases h
      exact ⟨rfl, by rw [commandByte_of_fields hres hdp h4]; rfl⟩
    · obtain ⟨cla, ins, p1, p2, p3, rfl, rfl⟩ := eq_encode_of_decodeTransfer h
      exact ⟨rfl, by rw [commandByte_of_fields hres hdp h5]; rfl⟩
    · obtain ⟨raw, rfl, hlen, rfl⟩ := eq_encode_of_decodeRaw h
      have h6 := opCode_eq_six _ h0 h7 h1 h2 h3 h4 h5
      exact ⟨by simpa [Instr.wf] using hlen, by rw [commandByte_of_fields hres hdp h6]; rfl⟩

theorem opCode_append (free : BitVec 5) (op : BitVec 3) : (free ++ op).extractLsb' 0 3 = op := by
  rw [BitVec.extractLsb'_append_eq_of_add_le le_rfl, BitVec.extractLsb'_eq_self]

theorem freeBits_append (free : BitVec 5) (op : BitVec 3) : (free ++ op).extractLsb' 3 5 = free := by
  rw [BitVec.extractLsb'_append_eq_of_le le_rfl, BitVec.extractLsb'_eq_self]

/-- The two op codes that are reserved, whatever the other bits of the byte (R127). -/
theorem decodeCommand_reserved (free : BitVec 5) (rest : List Byte) :
    decodeCommand ((free ++ (0 : BitVec 3)) :: rest) = .ok (.reservedOp0 free, rest) ∧
    decodeCommand ((free ++ (7 : BitVec 3)) :: rest) = .ok (.reservedOp7 free, rest) := by
  simp [decodeCommand, opCode_append, freeBits_append]

/-! ## The line formats -/

theorem ne_complement : ∀ b : Byte, b ≠ ~~~b := by decide

theorem ne_flip : ∀ b : Byte, b ≠ b ^^^ 1 := by decide

theorem ne_complement_flip : ∀ b : Byte, b ≠ ~~~(b ^^^ 1) := by decide

theorem classifyProc_null (ins : Byte) : classifyProc ins Config.nullByte = .procNull := by
  rw [classifyProc, if_pos rfl]

theorem classifyProc_ack {ins pb : Byte} (hnull : pb ≠ Config.nullByte) (h : pb = ins) :
    classifyProc ins pb = .procAck pb := by
  rw [classifyProc, if_neg hnull, if_pos h]

theorem classifyProc_ackInv {ins pb : Byte} (hnull : pb ≠ Config.nullByte) (hack : pb ≠ ins) (h : pb = ~~~ins) :
    classifyProc ins pb = .procAckInv pb := by
  rw [classifyProc, if_neg hnull, if_neg hack, if_pos h]

theorem classifyProc_sw1 {ins pb : Byte} (hnull : pb ≠ Config.nullByte) (hack : pb ≠ ins) (hinv : pb ≠ ~~~ins) :
    classifyProc ins pb = .procSw1 pb := by
  rw [classifyProc, if_neg hnull, if_neg hack, if_neg hinv]

theorem decode_proc {ins pb : Byte} {i : Instr} (h : classifyProc ins pb = i) (rest : List Byte) :
    decode (.proc ins) (pb :: rest) = .ok (i, rest) := by
  rw [← h]
  rfl

theorem decode_atr {role : AtrRole} {b : Byte} {i : Instr} (h : decodeAtrByte role b = .ok i) (rest : List Byte) :
    decode (.atr role) (b :: rest) = .ok (i, rest) := by
  simp only [decode, decodeOne, h]

/-- Settles O1, row by row: an argument block or a line format is read back from its own bytes. -/
theorem decodeOfEncode : Obligations.DecodeOfEncode := by
  intro i rest hwf hspace
  cases i with
  | init c => exact decodeInit_encode c rest
  | deriveTiming d => exact decodeDerive_encode d rest
  | transferD cla ins p1 p2 p3 data => exact decodeTransferD_encode (by simpa [Instr.wf] using hwf) rest
  | decodeAtr raw => exact decodeRaw_encode (by simpa [Instr.wf] using hwf) rest
  | reservedOp0 free => exact (decodeCommand_reserved free rest).1
  | reservedOp7 free => exact (decodeCommand_reserved free rest).2
  | procAck pb => exact decode_proc (classifyProc_ack (by simpa [Instr.wf] using hwf) rfl) rest
  | procAckInv pb =>
    exact decode_proc (classifyProc_ackInv (by simpa [Instr.wf] using hwf) (ne_complement pb) (by simp)) rest
  | procSw1 sw1 =>
    exact decode_proc (classifyProc_sw1 (by simpa [Instr.wf] using hwf) (ne_flip sw1) (ne_complement_flip sw1)) rest
  | atrT0 y1 k => exact decode_atr (by simp [decodeAtrByte]) rest
  | atrTd y t => exact decode_atr (by simp [decodeAtrByte]) rest
  | statusMalformedAtr d => cases d <;> rfl
  | txChar b => exact absurd rfl hspace
  | rxChar wait dl => exact absurd rfl hspace
  | _ => rfl

end Sys2Proof
end

section
/-! Procedure bytes by class, commands accepted and refused, and a presented command in the step (30_encoding.md R105 to
R113, R127). -/

namespace Sys2Proof

/-- Settles O3: the decoder runs on each word. -/
theorem wordsDecode : Obligations.WordsDecode := ⟨rfl, rfl, rfl, rfl, rfl, rfl, rfl⟩

/-! ## The class of a procedure byte -/

/-- The exclusive-or form of the test for the complement (R112). -/
theorem xor_eq_ones_iff (a b : Byte) : a ^^^ b = 0xFF ↔ a = ~~~b := by
  have hones : (0xFF : Byte) ^^^ b = ~~~b := BitVec.allOnes_xor
  rw [← hones]
  refine ⟨fun h => ?_, fun h => ?_⟩
  · rw [← h, BitVec.xor_assoc, BitVec.xor_self, BitVec.xor_zero]
  · rw [h, BitVec.xor_assoc, BitVec.xor_self, BitVec.xor_zero]

/-- Settles O4, one case for each outcome of the three tests. -/
theorem procedureByteClasses : Obligations.ProcedureByteClasses := by
  intro ins pb
  rw [show pb ^^^ ins = 0x00 ↔ pb = ins from BitVec.xor_eq_zero_iff, xor_eq_ones_iff]
  by_cases hnull : pb = Config.nullByte
  · subst hnull
    rw [classifyProc_null]
    simp
  have hne : pb ≠ 0x60#8 := hnull
  by_cases hack : pb = ins
  · rw [classifyProc_ack hnull hack]
    subst hack
    simp [hne]
  by_cases hinv : pb = ~~~ins
  · rw [classifyProc_ackInv hnull hack hinv]
    subst hinv
    simp [hne]
  · rw [classifyProc_sw1 hnull hack hinv]
    simp [hne, hack, hinv]

namespace Machine

/-! ## Acceptance and refusal -/

/-- Settles O5, column by column. -/
theorem acceptanceTable : Obligations.AcceptanceTable := by
  intro s
  refine ⟨?init, ?deriveTiming, ?decodeAtr, ?coldReset, ?warmReset, ?transfer⟩
  case coldReset => cases hb : s.busy <;> simp [accepts, transferInFlight, sessionResettable, hb]
  case warmReset => cases hb : s.busy <;> simp [accepts, transferInFlight, sessionResettable, cardRunning, hb]
  all_goals simp [accepts]

theorem resetCommand_of_refused {k : ResetKind} {s : State} (h : ¬ accepts (resetOp k) s = true) :
    resetCommand k s = s := if_neg h

/-- Settles O7: the rows of the reserved op codes are the refusal itself. -/
theorem reservedOpsComplete : Obligations.ReservedOpsComplete := fun _ _ => ⟨rfl, rfl⟩

/-- Settles O6: for each command, its condition in the table is not met. -/
theorem refusedCommandsChangeNothing : Obligations.RefusedCommandsChangeNothing := by
  intro s
  obtain ⟨hinit, hderive, hdecode, hcold, hwarm, htransfer⟩ := acceptanceTable s
  refine ⟨fun c hb => ?init, fun d hb => ?deriveTiming, fun bs h => ?decodeAtr,
    fun cla ins p1 p2 p3 h => ?transfer, fun cla ins p1 p2 p3 data h => ?transferD, fun h => ?cold, fun h => ?warm,
    fun rest => reservedOpsComplete rest s⟩
  case init => exact if_neg (by simp [hinit, hb])
  case deriveTiming => exact if_neg (by simp [hderive, hb])
  case decodeAtr =>
    refine if_neg ?_
    simp only [Bool.and_eq_true, hdecode, decide_eq_true_eq, Config.atrMax]
    rintro ⟨hb, hlen⟩
    exact h.elim (by simp [hb]) (by omega)
  case transfer =>
    refine if_neg ?_
    rw [htransfer]
    rintro ⟨hb, hs⟩
    exact h.elim (by simp [hb]) (absurd hs)
  case transferD =>
    refine if_neg ?_
    simp only [Bool.and_eq_true, htransfer, beq_iff_eq]
    rintro ⟨⟨hb, hs⟩, hlen⟩
    rcases h with h | h | h
    · simp [h] at hb
    · exact h hs
    · exact h hlen
  case cold =>
    refine congrArg _ (resetCommand_of_refused (k := .cold) ?_)
    rw [resetOp, hcold]
    rcases h with ⟨hb, h⟩ | ⟨hb, h⟩ <;> simp [hb, h]
  case warm =>
    refine congrArg _ (resetCommand_of_refused (k := .warm) ?_)
    rw [resetOp, hwarm]
    rcases h with ⟨hb, h | h | h⟩ | ⟨hb, h⟩ <;> simp [hb, h]

/-- What is presented is refused, or is the encoding of one well-formed command. -/
theorem runCommand_eq_next_or_encode (bs : List Byte) (s : State) :
    runCommand bs s = .next s ∨
    ∃ i, i.wf = true ∧ i.isCommand = true ∧ bs = encode i ∧ runCommand bs s = exec i s := by
  rcases runCommand_cases bs s with ⟨i, hd, hrun⟩ | hrun
  · obtain ⟨hwf, hcmd, henc⟩ := encodeOfDecode _ _ _ hd
    exact .inr ⟨i, hwf, hcmd, by simpa using henc, hrun⟩
  · exact .inl hrun

/-- Settles O8: no encoding of a command is malformed, but for the two reserved op codes, which change nothing. -/
theorem malformedCommandsRefused : Obligations.MalformedCommandsRefused := by
  intro cmd rest s h
  rcases runCommand_eq_next_or_encode (cmd :: rest) s with hrun | ⟨i, hwf, hcmd, henc, hrun⟩
  · exact hrun
  rw [hrun]
  cases i with
  | reservedOp0 free => rfl
  | reservedOp7 free => rfl
  | init c =>
    obtain ⟨rfl, rfl⟩ := List.cons.inj henc
    simp [hiNibble, cfgBytes] at h
  | deriveTiming d =>
    obtain ⟨rfl, rfl⟩ := List.cons.inj henc
    simp [hiNibble, dtBytes] at h
  | coldReset =>
    obtain ⟨rfl, rfl⟩ := List.cons.inj henc
    simp [hiNibble] at h
  | warmReset =>
    obtain ⟨rfl, rfl⟩ := List.cons.inj henc
    simp [hiNibble] at h
  | transfer cla ins p1 p2 p3 =>
    obtain ⟨rfl, rfl⟩ := List.cons.inj henc
    simp [hiNibble] at h
  | transferD cla ins p1 p2 p3 data =>
    obtain ⟨rfl, rfl⟩ := List.cons.inj henc
    have hlen : data.length = p3.toNat := by simpa [Instr.wf] using hwf
    have hp3 : BitVec.ofNat 8 p3.toNat = p3 := by simp
    simp [hiNibble, hlen, hp3] at h
    omega
  | decodeAtr raw =>
    obtain ⟨rfl, rfl⟩ := List.cons.inj henc
    have hlen : raw.length ≤ 55 := by simpa [Instr.wf] using hwf
    simp [hiNibble] at h
    omega
  | _ => cases hcmd

/-! ## A presented command in the step -/

theorem dueMove_of_command {s : State} {p : Presentation} {rest : List Presentation} {bs : List Byte}
    (hport : s.port = p :: rest) (hdue : p.notBefore ≤ s.tick) (hmove : p.move = .command bs) :
    dueMove s = if s.midStep then none else some (.command bs) := by
  simp only [dueMove, hport, hdue, hmove, if_true]

theorem runCommand_of_one {bs : List Byte} {i : Instr} (h : decodeCommand bs = .ok (i, [])) (s : State) :
    runCommand bs s = exec i s := by
  simp only [runCommand, h]

theorem runCommand_of_more {bs more : List Byte} {b : Byte} {i : Instr}
    (h : decodeCommand bs = .ok (i, b :: more)) (s : State) : runCommand bs s = .next s := by
  simp only [runCommand, h]

theorem runCommand_of_error {bs : List Byte} {e : Reject} (h : decodeCommand bs = .error e) (s : State) :
    runCommand bs s = .next s := by
  simp only [runCommand, h]

/-- Settles O47: a command that is due is what the fetch finds; within a step none is, and no line takes a move. -/
theorem stepRunsPresentedCommand : Obligations.StepRunsPresentedCommand := by
  intro s p rest bs hport hdue hmove
  have hd := dueMove_of_command hport hdue hmove
  refine ⟨fun hmid => ?boundary, fun hmid => ?within⟩
  case boundary =>
    have htake : takeMove s = { s with port := rest } := by rw [takeMove, hport, List.tail_cons]
    have hrun : step s = runCommand bs { s with port := rest } := by
      rw [← htake]
      simp [step, fetch, hd, hmid, runFetched]
    exact ⟨hrun, fun i h => hrun.trans (runCommand_of_one h _), fun i b more h => hrun.trans (runCommand_of_more h _),
      fun e h => hrun.trans (runCommand_of_error h _)⟩
  case within =>
    have hnone : dueMove s = none := by rw [hd, if_pos hmid]
    refine ⟨hnone, fun t hstep => ?_⟩
    obtain ⟨u, hu, rfl⟩ := holdShownResult_eq_next ((step_of_no_move hnone).symm.trans hstep)
    rw [holdShown_port, runFlight_port hu, hport]

end Machine
end Sys2Proof
end

section
/-! The ATR Decoder as a reader of its bytes (42_atr_decoder.md): what each part of it makes of the bytes it is written
for, of any longer list, and of every shorter one; and the bytes it accepts. -/

namespace Sys2Proof.Machine

/-! ## Readers -/

theorem bind_eq_ok {α β : Type} {m : Except AtrStop α} {f : α → Except AtrStop β} {b : β} (h : m.bind f = .ok b) :
    ∃ a, m = .ok a ∧ f a = .ok b := by
  cases m with
  | error e => cases h
  | ok a => exact ⟨a, rfl, h⟩

/-- A reader meets the bytes `w`, whose places are `r`: whatever follows them, it answers by what follows, and of a list
that ends before they do it needs the place that comes next. -/
structure Reads {α : Type} (f : List Byte → Except AtrStop α) (w : List Byte) (r : List AtrRole)
    (k : List Byte → Except AtrStop α) : Prop where
  length : r.length = w.length
  whole : ∀ rest, f (w ++ rest) = k rest
  short : ∀ n role, r[n]? = some role → f (w.take n) = .error (.needs role)

theorem Reads.nil {α : Type} {f k : List Byte → Except AtrStop α} (h : ∀ rest, f rest = k rest) : Reads f [] [] k :=
  ⟨rfl, h, fun _ _ h => by simp at h⟩

/-- A reader of one byte. -/
theorem Reads.one {α : Type} {f k : List Byte → Except AtrStop α} {b : Byte} {role : AtrRole}
    (hnil : f [] = .error (.needs role)) (hcons : ∀ rest, f (b :: rest) = k rest) : Reads f [b] [role] k where
  length := rfl
  whole := hcons
  short n role' h := by
    cases n with
    | zero => cases h; exact hnil
    | succ n => simp at h

/-- One reader after another. -/
theorem Reads.bind {α β : Type} {f : List Byte → Except AtrStop α} {w w' : List Byte} {r r' : List AtrRole}
    {p : List Byte → α} {h : α → Except AtrStop β} {k : List Byte → Except AtrStop β}
    (hf : Reads f w r fun rest => .ok (p rest)) (hg : Reads (fun bs => h (p bs)) w' r' k) :
    Reads (fun bs => (f bs).bind h) (w ++ w') (r ++ r') k where
  length := by simp [hf.length, hg.length]
  whole rest := by
    rw [List.append_assoc, hf.whole]
    exact hg.whole rest
  short n role hn := by
    rcases Nat.lt_or_ge n r.length with hlt | hge
    · rw [List.getElem?_append_left hlt] at hn
      rw [List.take_append_of_le_length (hf.length ▸ hlt.le), hf.short n role hn]
      rfl
    · rw [List.getElem?_append_right hge] at hn
      rw [List.take_append, List.take_of_length_le (hf.length ▸ hge), ← hf.length, hf.whole]
      exact hg.short _ role hn

/-- A reader whose answer is worked on. -/
theorem Reads.map {α β : Type} {f : List Byte → Except AtrStop α} {w : List Byte} {r : List AtrRole}
    {p : List Byte → α} {h : α → Except AtrStop β} {k : List Byte → Except AtrStop β}
    (hf : Reads f w r fun rest => .ok (p rest)) (hk : ∀ rest, h (p rest) = k rest) :
    Reads (fun bs => (f bs).bind h) w r k := by
  simpa using hf.bind (.nil hk)

/-! ## The exclusive-or of bytes -/

theorem xorAll_append (as bs : List Byte) : xorAll (as ++ bs) = xorAll as ^^^ xorAll bs := by
  induction as with
  | nil => simp [xorAll]
  | cons a as ih => simp [xorAll, ih, BitVec.xor_assoc]

theorem xorIf_eq (x : Byte) (o : Option Byte) : xorIf x o = x ^^^ xorAll (optByte o) := by
  cases o <;> simp [xorIf, optByte, xorAll]

/-! ## One interface byte, and a group (R195) -/

theorem reads_takeIf (role : AtrRole) (o : Option Byte) :
    Reads (takeIf o.isSome role) (optByte o) (if o.isSome then [role] else []) fun rest => .ok (o, rest) := by
  cases o with
  | none => exact .nil fun _ => rfl
  | some b => exact .one rfl fun _ => rfl

theorem takeIf_eq_ok {present : Bool} {role : AtrRole} {bs rest : List Byte} {o : Option Byte}
    (h : takeIf present role bs = .ok (o, rest)) : o.isSome = present ∧ bs = optByte o ++ rest := by
  cases present with
  | false => cases h; exact ⟨rfl, rfl⟩
  | true => cases bs <;> cases h; exact ⟨rfl, rfl⟩

/-- The group that follows a bitmap: its number, its protocol and the bytes that the bitmap announces. -/
structure Announced (proto : Option (BitVec 4)) (y : BitVec 4) (gi : Nat) (g : AtrGroup) : Prop where
  index : g.index = gi
  proto : g.proto = proto
  ta : g.ta.isSome = y.getLsbD 0
  tb : g.tb.isSome = y.getLsbD 1
  tc : g.tc.isSome = y.getLsbD 2
  td : g.td.isSome = y.getLsbD 3

theorem takeGroup_eq (gi : Nat) (proto : Option (BitVec 4)) (y : BitVec 4) (x : Byte) (bs : List Byte) :
    takeGroup gi proto y x bs =
      (takeIf (y.getLsbD 0) .ta bs).bind fun (ta, bs) =>
      (takeIf (y.getLsbD 1) .tb bs).bind fun (tb, bs) =>
      (takeIf (y.getLsbD 2) .tc bs).bind fun (tc, bs) =>
      (takeIf (y.getLsbD 3) .td bs).bind fun (td, bs) =>
      .ok ({ index := gi, proto := proto, ta := ta, tb := tb, tc := tc, td := td },
        xorIf (xorIf (xorIf (xorIf x ta) tb) tc) td, bs) := by
  unfold takeGroup
  rcases takeIf (y.getLsbD 0) .ta bs with e | ⟨ta, bs⟩
  · rfl
  rcases htb : takeIf (y.getLsbD 1) .tb bs with e | ⟨tb, bs⟩
  · simp only [htb, Except.bind]
  rcases htc : takeIf (y.getLsbD 2) .tc bs with e | ⟨tc, bs⟩
  · simp only [htb, htc, Except.bind]
  rcases htd : takeIf (y.getLsbD 3) .td bs with e | ⟨td, bs⟩ <;> simp only [htb, htc, htd, Except.bind]

theorem reads_takeGroup {proto : Option (BitVec 4)} {y : BitVec 4} {gi : Nat} {g : AtrGroup}
    (h : Announced proto y gi g) (x : Byte) :
    Reads (takeGroup gi proto y x) g.bytes g.roles fun rest => .ok (g, x ^^^ xorAll g.bytes, rest) := by
  obtain ⟨rfl, rfl, hta, htb, htc, htd⟩ := h
  have hx : x ^^^ xorAll g.bytes = xorIf (xorIf (xorIf (xorIf x g.ta) g.tb) g.tc) g.td := by
    simp [AtrGroup.bytes, xorIf_eq, xorAll_append, BitVec.xor_assoc]
  rw [hx, funext (takeGroup_eq _ _ _ _), ← hta, ← htb, ← htc, ← htd]
  simp only [AtrGroup.roles, AtrGroup.bytes, List.append_assoc]
  refine (reads_takeIf .ta g.ta).bind ?_
  dsimp only
  refine (reads_takeIf .tb g.tb).bind ?_
  dsimp only
  refine (reads_takeIf .tc g.tc).bind ?_
  dsimp only
  exact (reads_takeIf .td g.td).map fun _ => rfl

theorem takeGroup_eq_ok {gi : Nat} {proto : Option (BitVec 4)} {y : BitVec 4} {x x' : Byte} {bs rest : List Byte}
    {g : AtrGroup} (h : takeGroup gi proto y x bs = .ok (g, x', rest)) :
    Announced proto y gi g ∧ bs = g.bytes ++ rest := by
  rw [takeGroup_eq] at h
  obtain ⟨⟨ta, bs1⟩, hta, h⟩ := bind_eq_ok h
  obtain ⟨⟨tb, bs2⟩, htb, h⟩ := bind_eq_ok h
  obtain ⟨⟨tc, bs3⟩, htc, h⟩ := bind_eq_ok h
  obtain ⟨⟨td, bs4⟩, htd, h⟩ := bind_eq_ok h
  cases h
  obtain ⟨pta, rfl⟩ := takeIf_eq_ok hta
  obtain ⟨ptb, rfl⟩ := takeIf_eq_ok htb
  obtain ⟨ptc, rfl⟩ := takeIf_eq_ok htc
  obtain ⟨ptd, rfl⟩ := takeIf_eq_ok htd
  exact ⟨⟨rfl, rfl, pta, ptb, ptc, ptd⟩, by simp [AtrGroup.bytes]⟩

/-! ## The chain of groups (R196, R197) -/

/-- The bitmap that a group leaves for the next one: that of its TD, or none. -/
def nextBitmap (g : AtrGroup) : BitVec 4 :=
  match g.td with
  | none => 0
  | some td => hiNibble td

/-- The protocol of the group after this one. -/
def nextProto (g : AtrGroup) : Option (BitVec 4) := g.td.map loNibble

theorem announced_iff (proto : Option (BitVec 4)) (y : BitVec 4) (gi : Nat) (g : AtrGroup) :
    Announced proto y gi g ↔ g.index = gi ∧ g.proto = proto ∧ g.ta.isSome = y.getLsbD 0 ∧ g.tb.isSome = y.getLsbD 1 ∧
      g.tc.isSome = y.getLsbD 2 ∧ g.td.isSome = y.getLsbD 3 where
  mp | ⟨hindex, hproto, hta, htb, htc, htd⟩ => ⟨hindex, hproto, hta, htb, htc, htd⟩
  mpr | ⟨hindex, hproto, hta, htb, htc, htd⟩ => ⟨hindex, hproto, hta, htb, htc, htd⟩

/-- A group with what it announces next; `chained` treats the last one apart. -/
theorem chained_cons (proto : Option (BitVec 4)) (y : BitVec 4) (gi : Nat) (g : AtrGroup) (gs : List AtrGroup) :
    chained proto y gi (g :: gs) = true ↔
      y ≠ 0 ∧ Announced proto y gi g ∧ chained (nextProto g) (nextBitmap g) (gi + 1) gs = true := by
  rw [announced_iff]
  rcases g with ⟨_, _, _, _, _, _ | td⟩
  · cases gs <;> simp [chained, nextBitmap, and_assoc]
  · simp [chained, nextBitmap, nextProto, and_assoc]

/-- The walk over the groups, with as much fuel as `decodeBody` gives it. -/
def walkGroups (y : BitVec 4) (gi : Nat) (proto : Option (BitVec 4)) (needed : Bool) (groups : List AtrGroup) (x : Byte)
    (bs : List Byte) : Except AtrStop (List AtrGroup × Bool × Byte × List Byte) :=
  takeGroups (bs.length + 1) y gi proto needed groups x bs

/-- A turn with a bitmap left. -/
theorem takeGroups_succ {y : BitVec 4} (hy : y ≠ 0) (fuel gi : Nat) (proto : Option (BitVec 4)) (needed : Bool)
    (groups : List AtrGroup) (x : Byte) (bs : List Byte) :
    takeGroups (fuel + 1) y gi proto needed groups x bs = (takeGroup gi proto y x bs).bind fun (g, x', rest) =>
      match g.td with
      | none => .ok (groups ++ [g], needed, x', rest)
      | some td => takeGroups fuel (hiNibble td) (gi + 1) (some (loNibble td)) (needed || loNibble td != 0)
          (groups ++ [g]) x' rest := by
  rw [takeGroups, if_neg hy]
  rcases takeGroup gi proto y x bs with e | ⟨g, x', rest⟩ <;> rfl

theorem length_bytes_pos {g : AtrGroup} {td : Byte} (h : g.td = some td) : 0 < g.bytes.length := by
  simp [AtrGroup.bytes, h, optByte]

/-- Each turn that goes on has read a TD, so fuel beyond the bytes left changes nothing. -/
theorem takeGroups_fuel {bs : List Byte} {fuel fuel' : Nat} (h : bs.length < fuel) (h' : bs.length < fuel')
    (y : BitVec 4) (gi : Nat) (proto : Option (BitVec 4)) (needed : Bool) (groups : List AtrGroup) (x : Byte) :
    takeGroups fuel y gi proto needed groups x bs = takeGroups fuel' y gi proto needed groups x bs := by
  induction fuel generalizing bs fuel' y gi proto needed groups x with
  | zero => omega
  | succ fuel ih =>
    obtain ⟨fuel', rfl⟩ := Nat.exists_eq_add_of_le' (Nat.zero_lt_of_lt h')
    by_cases hy : y = 0
    · simp only [takeGroups, hy, if_true]
    rw [takeGroups_succ hy, takeGroups_succ hy]
    rcases hg : takeGroup gi proto y x bs with e | ⟨g, x', rest⟩
    · rfl
    obtain ⟨-, rfl⟩ := takeGroup_eq_ok hg
    simp only [Except.bind]
    split
    · rfl
    · have hpos := length_bytes_pos ‹_›
      rw [List.length_append] at h h'
      exact ih (by omega) (by omega) ..

theorem walkGroups_zero (gi : Nat) (proto : Option (BitVec 4)) (needed : Bool) (groups : List AtrGroup) (x : Byte)
    (bs : List Byte) : walkGroups 0 gi proto needed groups x bs = .ok (groups, needed, x, bs) := rfl

/-- The walk over the groups is a group and the walk over the next ones. -/
theorem walkGroups_eq {y : BitVec 4} (hy : y ≠ 0) (gi : Nat) (proto : Option (BitVec 4)) (needed : Bool)
    (groups : List AtrGroup) (x : Byte) (bs : List Byte) :
    walkGroups y gi proto needed groups x bs = (takeGroup gi proto y x bs).bind fun (g, x', rest) =>
      walkGroups (nextBitmap g) (gi + 1) (nextProto g) (needed || declaresOther [g]) (groups ++ [g]) x' rest := by
  rw [walkGroups, takeGroups_succ hy]
  rcases hg : takeGroup gi proto y x bs with e | ⟨g, x', rest⟩
  · rfl
  obtain ⟨-, rfl⟩ := takeGroup_eq_ok hg
  simp only [Except.bind]
  split
  · rename_i htd
    simp only [nextBitmap, htd, walkGroups_zero, declaresOther, List.any_cons, List.any_nil, Bool.or_false]
  · rename_i td htd
    have hpos := length_bytes_pos htd
    simp only [nextBitmap, nextProto, htd, declaresOther, List.any_cons, List.any_nil, Bool.or_false, Option.map_some]
    exact takeGroups_fuel (by rw [List.length_append]; omega) (by omega) ..

theorem reads_walkGroups {proto : Option (BitVec 4)} {y : BitVec 4} {gi : Nat} {gs : List AtrGroup}
    (h : chained proto y gi gs = true) (needed : Bool) (groups : List AtrGroup) (x : Byte) :
    Reads (walkGroups y gi proto needed groups x) (gs.map AtrGroup.bytes).flatten (gs.map AtrGroup.roles).flatten
      fun rest =>
        .ok (groups ++ gs, needed || declaresOther gs, x ^^^ xorAll (gs.map AtrGroup.bytes).flatten, rest) := by
  induction gs generalizing proto y gi needed groups x with
  | nil =>
    obtain rfl : y = 0 := by simpa [chained] using h
    refine .nil fun rest => ?_
    rw [walkGroups_zero]
    simp [xorAll, declaresOther]
  | cons g gs ih =>
    obtain ⟨hy, hg, hgs⟩ := (chained_cons ..).mp h
    rw [funext (walkGroups_eq hy gi proto needed groups x)]
    refine (reads_takeGroup hg x).bind ?_
    have hmore := ih hgs (needed || declaresOther [g]) (groups ++ [g]) (x ^^^ xorAll g.bytes)
    simpa [xorAll_append, declaresOther, BitVec.xor_assoc, Bool.or_assoc] using hmore

theorem takeGroups_eq_ok {fuel : Nat} {y : BitVec 4} {gi : Nat} {proto : Option (BitVec 4)} {needed needed' : Bool}
    {groups groups' : List AtrGroup} {x x' : Byte} {bs rest : List Byte}
    (h : takeGroups fuel y gi proto needed groups x bs = .ok (groups', needed', x', rest)) :
    ∃ gs, chained proto y gi gs = true ∧ bs = (gs.map AtrGroup.bytes).flatten ++ rest := by
  induction fuel generalizing bs y gi proto needed groups x with
  | zero => cases h
  | succ fuel ih =>
    by_cases hy : y = 0
    · simp only [takeGroups, hy, if_true] at h
      cases h
      exact ⟨[], by simp [chained, hy], rfl⟩
    rw [takeGroups_succ hy] at h
    obtain ⟨⟨g, x1, bs1⟩, hg, hnext⟩ := bind_eq_ok h
    obtain ⟨hann, rfl⟩ := takeGroup_eq_ok hg
    dsimp only at hnext
    split at hnext
    · rename_i htd
      cases hnext
      exact ⟨[g], (chained_cons ..).mpr ⟨hy, hann, by simp [chained, nextBitmap, htd]⟩, by simp⟩
    · rename_i td htd
      obtain ⟨gs, hgs, rfl⟩ := ih hnext
      exact ⟨g :: gs, (chained_cons ..).mpr ⟨hy, hann, by simpa [nextBitmap, nextProto, htd] using hgs⟩, by simp⟩

end Sys2Proof.Machine
end

section
/-! The whole ATR: historical bytes, TCK, and the decoder read forwards, from a view to its bytes, and backwards
(42_atr_decoder.md R191 to R200). -/

namespace Sys2Proof.Machine

/-! ## The historical bytes (R198) and TCK (R199) -/

theorem takeByte_eq_ok {role : AtrRole} {bs rest : List Byte} {b : Byte} (h : takeByte role bs = .ok (b, rest)) :
    bs = b :: rest := by
  cases bs <;> cases h
  rfl

theorem takeHist_succ (k : Nat) (x : Byte) (bs : List Byte) :
    takeHist (k + 1) x bs = (takeByte .hist bs).bind fun (h, rest) =>
      (takeHist k (x ^^^ h) rest).bind fun (hs, x', rest') => .ok (h :: hs, x', rest') := by
  cases bs with
  | nil => rfl
  | cons b bs =>
    simp only [takeHist, takeByte, Except.bind]
    rcases takeHist k (x ^^^ b) bs with e | ⟨hs, x', rest⟩ <;> rfl

theorem reads_takeHist (hs : List Byte) (x : Byte) :
    Reads (takeHist hs.length x) hs (List.replicate hs.length .hist) fun rest => .ok (hs, x ^^^ xorAll hs, rest) := by
  induction hs generalizing x with
  | nil => exact .nil fun rest => by simp [takeHist, xorAll]
  | cons h hs ih =>
    have hone : Reads (takeByte .hist) [h] [.hist] fun rest => .ok (h, rest) := .one rfl fun _ => rfl
    rw [List.length_cons, funext (takeHist_succ hs.length x)]
    refine hone.bind ((ih (x ^^^ h)).map fun rest => ?_)
    simp only [xorAll, BitVec.xor_assoc]

theorem takeHist_eq_ok {k : Nat} {x x' : Byte} {bs hs rest : List Byte} (h : takeHist k x bs = .ok (hs, x', rest)) :
    hs.length = k ∧ bs = hs ++ rest := by
  induction k generalizing x bs hs with
  | zero => cases h; exact ⟨rfl, rfl⟩
  | succ k ih =>
    rw [takeHist_succ] at h
    obtain ⟨⟨b, bs1⟩, hb, h⟩ := bind_eq_ok h
    obtain ⟨⟨hs', x1, rest'⟩, htail, hlast⟩ := bind_eq_ok h
    cases hlast
    obtain ⟨rfl, rfl⟩ := ih htail
    exact ⟨rfl, takeByte_eq_ok hb⟩

/-- TCK with the end of the walk after it, which only a check that passes comes to. -/
theorem reads_takeTck {α : Type} {x : Byte} {o : Option Byte} {passes : Bool}
    (hpasses : passes = true ↔ (o.isSome = true → x ^^^ xorAll (optByte o) = 0))
    (h : Option Byte × List Byte → Except AtrStop α) :
    Reads (fun bs => (takeTck o.isSome x bs).bind h) (optByte o) (if o.isSome then [.tck] else []) fun rest =>
      if passes = true then h (o, rest) else .error .checksum := by
  cases o with
  | none => exact .nil fun rest => by simp [takeTck, Except.bind, hpasses]
  | some b =>
    refine .one rfl fun rest => ?_
    have htck : takeTck true x (b :: rest) = if passes = true then .ok (some b, rest) else .error .checksum := by
      simp [takeTck, takeByte, hpasses, optByte, xorAll]
    rw [Option.isSome_some, htck]
    split <;> rfl

theorem takeTck_eq_ok {needed : Bool} {x : Byte} {bs rest : List Byte} {o : Option Byte}
    (h : takeTck needed x bs = .ok (o, rest)) : o.isSome = needed ∧ bs = optByte o ++ rest := by
  cases needed with
  | false => cases h; exact ⟨rfl, rfl⟩
  | true =>
    cases bs with
    | nil => cases h
    | cons b bs =>
      simp only [takeTck, takeByte, if_true] at h
      split at h <;> cases h
      exact ⟨rfl, rfl⟩

/-! ## The walk after TS and T0 -/

theorem decodeBody_eq (n : Nat) (ts t0 : Byte) (bs : List Byte) :
    decodeBody n ts t0 bs = (walkGroups (hiNibble t0) 1 none false [] t0 bs).bind fun (groups, needed, x, bs1) =>
      (takeHist (loNibble t0).toNat x bs1).bind fun (hist, x', bs2) =>
      (takeTck needed x' bs2).bind fun (tck, bs3) =>
      if bs3.length != 0 then .error .trailing
      else .ok { ts := ts, convention := if ts = 0x3F then 1 else 0, t0 := t0, k := loNibble t0,
                 y1 := hiNibble t0, groups := groups, hist := hist, tckPresent := needed, tck := tck,
                 len := BitVec.ofNat 8 n } := by
  unfold decodeBody walkGroups
  rcases takeGroups (bs.length + 1) (hiNibble t0) 1 none false [] t0 bs with e | ⟨groups, needed, x, bs1⟩
  · rfl
  rcases hh : takeHist (loNibble t0).toNat x bs1 with e | ⟨hist, x', bs2⟩
  · simp only [hh, Except.bind]
  rcases ht : takeTck needed x' bs2 with e | ⟨tck, bs3⟩ <;> simp only [hh, ht, Except.bind]

/-- The structure of a view, by its fields. -/
theorem structured_iff (v : AtrView) : v.structured = true ↔
    (v.ts = 0x3B ∧ v.convention = 0 ∨ v.ts = 0x3F ∧ v.convention = 1) ∧ v.k = loNibble v.t0 ∧ v.y1 = hiNibble v.t0 ∧
    chained none v.y1 1 v.groups = true ∧ v.hist.length = v.k.toNat ∧ v.tckPresent = declaresOther v.groups ∧
    v.tck.isSome = v.tckPresent ∧ v.len = BitVec.ofNat 8 v.bytes.length := by
  simp only [AtrView.structured, Bool.and_eq_true, Bool.or_eq_true, beq_iff_eq, and_assoc]

/-- What the bytes of a view are after TS and T0. -/
def AtrView.body (v : AtrView) : List Byte := (v.groups.map AtrGroup.bytes).flatten ++ (v.hist ++ optByte v.tck)

theorem bytes_eq (v : AtrView) : v.bytes = v.ts :: v.t0 :: v.body := by
  simp [AtrView.bytes, AtrView.body]

theorem checked_iff (v : AtrView) : v.checked = true ↔ (v.tckPresent = true → v.t0 ^^^ xorAll v.body = 0) := by
  cases h : v.tckPresent <;> simp [AtrView.checked, h, bytes_eq, xorAll]

/-- What the places of a view are after TS and T0. -/
def AtrView.bodyRoles (v : AtrView) : List AtrRole :=
  (v.groups.map AtrGroup.roles).flatten ++ (List.replicate v.hist.length .hist ++ if v.tckPresent then [.tck] else [])

theorem roles_eq (v : AtrView) : v.roles = .ts :: .t0 :: v.bodyRoles := by
  simp [AtrView.roles, AtrView.bodyRoles]

theorem convention_eq {v : AtrView} (h : v.ts = 0x3B ∧ v.convention = 0 ∨ v.ts = 0x3F ∧ v.convention = 1) :
    v.convention = if v.ts = 0x3F then 1 else 0 := by
  rcases h with ⟨hts, hc⟩ | ⟨hts, hc⟩ <;> rw [hts, hc] <;> rfl

theorem reads_decodeBody {v : AtrView} (h : v.structured = true) (n : Nat) :
    Reads (decodeBody n v.ts v.t0) v.body v.bodyRoles fun rest =>
      if v.checked = true then
        if rest.length != 0 then .error .trailing else .ok { v with len := BitVec.ofNat 8 n }
      else .error .checksum := by
  obtain ⟨hts, hk, hy1, hchain, hhist, htckp, htck, -⟩ := (structured_iff v).mp h
  rw [funext (decodeBody_eq n v.ts v.t0), ← hy1, ← hk, ← hhist, AtrView.bodyRoles, ← htck]
  refine (reads_walkGroups hchain false [] v.t0).bind ?_
  dsimp only
  refine (reads_takeHist v.hist _).bind ?_
  dsimp only
  rw [Bool.false_or, ← htckp, ← htck, ← convention_eq hts]
  refine reads_takeTck ?_ _
  rw [checked_iff, htck]
  simp only [AtrView.body, xorAll_append, BitVec.xor_assoc]

/-! ## The decoder over the bytes of a view -/

theorem ts_legal {v : AtrView} (h : v.structured = true) : (v.ts != 0x3B && v.ts != 0x3F) = false := by
  obtain ⟨hts | hts, -⟩ := (structured_iff v).mp h <;> simp [hts]

theorem decodeAtr_illegal {ts : Byte} (h : (ts != 0x3B && ts != 0x3F) = true) (bs : List Byte) :
    decodeAtr (ts :: bs) = .error .badTs := by
  simp only [decodeAtr, takeByte, h, if_true]

theorem decodeAtr_single {ts : Byte} (h : (ts != 0x3B && ts != 0x3F) = false) :
    decodeAtr [ts] = .error (.needs .t0) := by
  simp only [decodeAtr, takeByte, h]
  rfl

theorem decodeAtr_cons_cons {ts : Byte} (h : (ts != 0x3B && ts != 0x3F) = false) (t0 : Byte) (bs : List Byte) :
    decodeAtr (ts :: t0 :: bs) = decodeBody (ts :: t0 :: bs).length ts t0 bs := by
  simp only [decodeAtr, takeByte, h]
  rfl

/-- The bytes of a view decode to it, or fail its check. -/
theorem decodeAtr_bytes {v : AtrView} (h : v.structured = true) :
    decodeAtr v.bytes = if v.checked = true then .ok v else .error .checksum := by
  obtain ⟨-, -, -, -, -, -, -, hlen⟩ := (structured_iff v).mp h
  have hbody := (reads_decodeBody h v.bytes.length).whole []
  rw [← hlen, List.append_nil] at hbody
  rw [bytes_eq, decodeAtr_cons_cons (ts_legal h), ← bytes_eq, hbody]
  rfl

/-- After fewer bytes than a view has, the place of the next one is missing. -/
theorem decodeAtr_take {v : AtrView} (h : v.structured = true) {n : Nat} {role : AtrRole}
    (hn : v.roles[n]? = some role) : decodeAtr (v.bytes.take n) = .error (.needs role) := by
  rw [roles_eq] at hn
  rw [bytes_eq]
  match n, hn with
  | 0, hn => cases hn; rfl
  | 1, hn =>
    cases hn
    exact decodeAtr_single (ts_legal h)
  | n + 2, hn =>
    simp only [List.take_succ_cons]
    rw [decodeAtr_cons_cons (ts_legal h)]
    exact (reads_decodeBody h _).short n role hn

theorem length_roles {v : AtrView} (h : v.structured = true) : v.roles.length = v.bytes.length := by
  simp [roles_eq, bytes_eq, (reads_decodeBody h 0).length]

theorem nextRole_take {v : AtrView} (h : v.structured = true) (n : Nat) :
    nextRole (v.bytes.take n) = v.roles[n]? := by
  cases hn : v.roles[n]? with
  | some role => simp only [nextRole, decodeAtr_take h hn]
  | none =>
    rw [List.getElem?_eq_none_iff, length_roles h] at hn
    rw [List.take_of_length_le hn, nextRole, decodeAtr_bytes h]
    cases v.checked <;> rfl

/-! ## The bytes that decode -/

theorem decodeBody_eq_ok {n : Nat} {ts t0 : Byte} {bs : List Byte} {v : AtrView} (h : decodeBody n ts t0 bs = .ok v) :
    ∃ gs hist tck, chained none (hiNibble t0) 1 gs = true ∧ hist.length = (loNibble t0).toNat ∧
      tck.isSome = declaresOther gs ∧ bs = (gs.map AtrGroup.bytes).flatten ++ (hist ++ optByte tck) := by
  rw [decodeBody_eq] at h
  obtain ⟨⟨groups, needed, x, bs1⟩, hg, h⟩ := bind_eq_ok h
  obtain ⟨⟨hist, x', bs2⟩, hhist, h⟩ := bind_eq_ok h
  obtain ⟨⟨tck, bs3⟩, htck, hlast⟩ := bind_eq_ok h
  obtain ⟨gs, hchain, rfl⟩ := takeGroups_eq_ok hg
  cases ((reads_walkGroups hchain false [] t0).whole bs1).symm.trans hg
  obtain ⟨hlen, rfl⟩ := takeHist_eq_ok hhist
  obtain ⟨hneeded, rfl⟩ := takeTck_eq_ok htck
  have hend : bs3 = [] := by
    by_contra hne
    simp [hne] at hlast
  exact ⟨gs, hist, tck, hchain, hlen, by simpa using hneeded, by simp [hend]⟩

/-- The view that a TS, a T0 and the parts after them make. -/
def viewOf (ts t0 : Byte) (gs : List AtrGroup) (hist : List Byte) (tck : Option Byte) : AtrView :=
  { ts := ts, convention := if ts = 0x3F then 1 else 0, t0 := t0, k := loNibble t0, y1 := hiNibble t0, groups := gs,
    hist := hist, tckPresent := declaresOther gs, tck := tck,
    len := BitVec.ofNat 8 (ts :: t0 :: ((gs.map AtrGroup.bytes).flatten ++ (hist ++ optByte tck))).length }

theorem structured_viewOf {ts t0 : Byte} {gs : List AtrGroup} {hist : List Byte} {tck : Option Byte}
    (hts : (ts != 0x3B && ts != 0x3F) = false) (hchain : chained none (hiNibble t0) 1 gs = true)
    (hlen : hist.length = (loNibble t0).toNat) (htck : tck.isSome = declaresOther gs) :
    (viewOf ts t0 gs hist tck).structured = true := by
  refine (structured_iff _).mpr ⟨?_, rfl, rfl, hchain, hlen, rfl, htck, ?_⟩
  · have hlegal : ts = 0x3B ∨ ts = 0x3F := or_iff_not_imp_left.mpr (by simpa using hts)
    rcases hlegal with rfl | rfl
    · exact .inl ⟨rfl, rfl⟩
    · exact .inr ⟨rfl, rfl⟩
  · rw [bytes_eq]
    rfl

/-- The bytes that decode to a view are that view's, and it has the structure. -/
theorem structured_of_decodeAtr {bs : List Byte} {v : AtrView} (h : decodeAtr bs = .ok v) :
    v.structured = true ∧ v.bytes = bs := by
  suffices hview : ∃ u : AtrView, u.structured = true ∧ u.bytes = bs by
    obtain ⟨u, hu, rfl⟩ := hview
    rw [decodeAtr_bytes hu] at h
    split at h <;> cases h
    exact ⟨hu, rfl⟩
  match bs, h with
  | [], h => cases h
  | ts :: bs, h =>
    cases hts : (ts != 0x3B && ts != 0x3F) with
    | true => cases (decodeAtr_illegal hts bs).symm.trans h
    | false =>
      match bs, h with
      | [], h => cases (decodeAtr_single hts).symm.trans h
      | t0 :: body, h =>
        rw [decodeAtr_cons_cons hts] at h
        obtain ⟨gs, hist, tck, hchain, hlen, htck, rfl⟩ := decodeBody_eq_ok h
        exact ⟨viewOf ts t0 gs hist tck, structured_viewOf hts hchain hlen htck, bytes_eq _⟩

/-- Settles O24: the decoder's answer is the one view with the structure that has these bytes. -/
theorem viewIsFaithful : Obligations.ViewIsFaithful := by
  refine ⟨fun bs v h => ?_, fun v h => decodeAtr_bytes h⟩
  obtain ⟨hv, rfl⟩ := structured_of_decodeAtr h
  obtain ⟨-, -, -, -, -, -, -, hlen⟩ := (structured_iff v).mp hv
  refine ⟨rfl, fun hlt => ?_, hv⟩
  rw [hlen, BitVec.toNat_ofNat, Nat.mod_eq_of_lt hlt]

/-! ## The fields of a view -/

theorem chained_groups_nil_iff {proto : Option (BitVec 4)} {y : BitVec 4} {gi : Nat} {gs : List AtrGroup}
    (h : chained proto y gi gs = true) : gs = [] ↔ y = 0 := by
  cases gs with
  | nil => simpa [chained] using h
  | cons g gs =>
    obtain ⟨hy, -⟩ := (chained_cons ..).mp h
    exact iff_of_false (List.cons_ne_nil g gs) hy

/-- Each group of a chain is announced by the bitmap it starts with, or by the TD of the group before it. -/
theorem chained_getElem {proto : Option (BitVec 4)} {y : BitVec 4} {gi : Nat} {gs : List AtrGroup}
    (h : chained proto y gi gs = true) {j : Nat} {g : AtrGroup} (hg : gs[j]? = some g) :
    ∃ y', ((j = 0 ∧ y' = y ∧ g.proto = proto) ∨
        (∃ before td, 0 < j ∧ gs[j - 1]? = some before ∧ before.td = some td ∧ y' = hiNibble td ∧
          g.proto = some (loNibble td))) ∧
      y' ≠ 0 ∧ g.index = gi + j ∧ g.ta.isSome = y'.getLsbD 0 ∧ g.tb.isSome = y'.getLsbD 1 ∧
      g.tc.isSome = y'.getLsbD 2 ∧ g.td.isSome = y'.getLsbD 3 := by
  induction gs generalizing proto y gi j with
  | nil => cases hg
  | cons first gs ih =>
    obtain ⟨hy, hfirst, hgs⟩ := (chained_cons ..).mp h
    cases j with
    | zero =>
      cases hg
      exact ⟨y, .inl ⟨rfl, rfl, hfirst.proto⟩, hy, hfirst.index, hfirst.ta, hfirst.tb, hfirst.tc, hfirst.td⟩
    | succ j =>
      obtain ⟨y', hfrom, hy', hindex, hbits⟩ := ih hgs hg
      refine ⟨y', .inr ?_, hy', by omega, hbits⟩
      rcases hfrom with ⟨rfl, rfl, hproto⟩ | ⟨before, td, hj, hbefore, htd⟩
      · cases htd : first.td with
        | none => simp [nextBitmap, htd] at hy'
        | some td =>
          exact ⟨first, td, by simp, rfl, htd, by simp [nextBitmap, htd], by simp [hproto, nextProto, htd]⟩
      · obtain ⟨j, rfl⟩ := Nat.exists_eq_add_of_le' hj
        exact ⟨before, td, by simp, hbefore, htd⟩

theorem chained_getLast {proto : Option (BitVec 4)} {y : BitVec 4} {gi : Nat} {gs : List AtrGroup}
    (h : chained proto y gi gs = true) {g : AtrGroup} (hg : gs.getLast? = some g) : nextBitmap g = 0 := by
  induction gs generalizing proto y gi with
  | nil => cases hg
  | cons first gs ih =>
    obtain ⟨-, -, hgs⟩ := (chained_cons ..).mp h
    cases gs with
    | nil =>
      cases hg
      simpa [chained] using hgs
    | cons second gs => exact ih hgs (by simpa using hg)

/-- Settles O25: the view has the structure of an ATR, and its chain of groups is the one of its T0. -/
theorem viewFields : Obligations.ViewFields := by
  intro bs v h
  obtain ⟨hv, rfl⟩ := structured_of_decodeAtr h
  obtain ⟨hts, hk, hy1, hchain, hhist, htckp, htck, -⟩ := (structured_iff v).mp hv
  refine ⟨hts, hk, hy1, hhist, htckp, htck, fun hp => ?check, chained_groups_nil_iff hchain,
    fun j g hg => ?group, fun g td hg htd => ?last⟩
  case check =>
    have hchecked : v.checked = true := by
      by_contra hbad
      cases ((decodeAtr_bytes hv).trans (if_neg hbad)).symm.trans h
    rw [bytes_eq]
    exact (checked_iff v).mp hchecked hp
  case group => simpa only [Nat.add_comm 1 j] using chained_getElem hchain hg
  case last => simpa only [nextBitmap, htd] using chained_getLast hchain hg

/-! ## A character received by the sequencer -/

theorem firstTooLate_eq_false {s : State}
    (h : s.rsState ≠ .atrWindowOpen ∨ ∃ d, s.atrDeadline = some d ∧ s.now < d) : firstTooLate s = false := by
  rcases h with h | ⟨d, hd, hlt⟩
  · simp [firstTooLate, h]
  · simp [firstTooLate, readAtrDeadline, hd, hlt]

theorem atrRow_of_format {role : AtrRole} {b : Byte} {i : Instr} {s : State}
    (hrole : nextRole (atrBytes s.atrLen.toNat s) = some role) (h : decodeAtrByte role b = .ok i) :
    atrRow b s = .micro i := by
  simp only [atrRow, hrole, h]

theorem atrRow_of_noFormat {role : AtrRole} {b : Byte} {e : Reject} {s : State}
    (hrole : nextRole (atrBytes s.atrLen.toNat s) = some role) (h : decodeAtrByte role b = .error e) :
    atrRow b s = .capture b := by
  simp only [atrRow, hrole, h]

theorem exec_rxChar_of_byte {wait : Nat} {dl : Option Nat} {b : Byte} {s : State} (hchar : s.char = .got (.byte b))
    (howner : s.owner = .rs) : exec (.rxChar wait dl) s = .next (atrByte b s) := by
  rw [← rxByte_of_rs howner]
  simp only [exec, execRxChar, hchar]

/-- Settles O36: the place is `nextRole_take`, the row that of its format. -/
theorem rxCharAtrByte : Obligations.RxCharAtrByte := by
  refine ⟨fun v n h => nextRole_take h n, fun wait dl b s hchar howner =>
    ⟨fun htime => ⟨atrRow b s, ?inTime, fun role hrole => ?row⟩, fun d hopen hd hlate => ?late⟩⟩
  case inTime =>
    rw [exec_rxChar_of_byte hchar howner, atrByte, firstTooLate_eq_false htime]
    rfl
  case row =>
    refine ⟨?direct, ?inverse, ?illegal, ?t0, ?td, ?tck, ?other⟩
    case direct => rintro rfl rfl; exact atrRow_of_format hrole rfl
    case inverse => rintro rfl rfl; exact atrRow_of_format hrole rfl
    case illegal =>
      rintro rfl hdirect hinverse
      exact atrRow_of_noFormat hrole (by rw [decodeAtrByte, if_neg hdirect, if_neg hinverse])
    case t0 => rintro rfl; exact atrRow_of_format hrole rfl
    case td => rintro rfl; exact atrRow_of_format hrole rfl
    case tck => rintro rfl; exact atrRow_of_format hrole rfl
    case other => rintro (rfl | rfl | rfl | rfl) <;> exact atrRow_of_noFormat hrole rfl
  case late =>
    have hfirst : firstTooLate s = true := by simp [firstTooLate, hopen, readAtrDeadline, hd, hlate]
    rw [exec_rxChar_of_byte hchar howner, atrByte, if_pos hfirst, atrTimeout_of_firstTooLate hfirst]
    rfl

end Sys2Proof.Machine
end

section
/-! The Timing Engine and `INIT` (40_timing_and_init.md): the numbers `derive` gives, then the two commands, each
accepted with nothing in flight and ending in its step. -/

namespace Sys2Proof.Machine

/-! ## The divisor and the guard time (R142 to R144) -/

/-- Settles O10: the divisor is a quotient by `2 * di`, and a quotient brackets its dividend. -/
theorem divisorIsNearest : Obligations.DivisorIsNearest := by
  intro fi di hdi
  have hpos : 0 < 2 * di.toNat := Nat.mul_pos two_pos (Nat.pos_of_ne_zero (BitVec.toNat_ne.mp hdi))
  exact ⟨Nat.mul_div_le _ _, Nat.lt_mul_div_succ _ hpos⟩

theorem deriveInvalid_iff (fi : BitVec 16) (di : BitVec 8) (hz : BitVec 32) :
    deriveInvalid fi di hz = true ↔
      di = 0 ∨ fi = 0 ∨ divisor fi di < 1 ∨ divisor fi di > 65535 ∨ hz = 0 := by
  simp only [deriveInvalid, Config.divMin, Config.divMax, Bool.or_eq_true, beq_iff_eq, decide_eq_true_eq, gt_iff_lt,
    or_assoc]

theorem derive_eq_none_iff (fi : BitVec 16) (di : BitVec 8) (hz : BitVec 32) (tg : BitVec 8) :
    derive fi di hz tg = none ↔ deriveInvalid fi di hz = true := by
  simp [derive]

/-- The 16 bits of the divisor lose none of it: a larger one is `Invalid`. -/
theorem toNat_ofNat_divisor {fi : BitVec 16} {di : BitVec 8} {hz : BitVec 32} (h : ¬ deriveInvalid fi di hz = true) :
    (BitVec.ofNat 16 (divisor fi di)).toNat = divisor fi di := by
  have hle : ¬ divisor fi di > 65535 := fun hgt => h ((deriveInvalid_iff fi di hz).mpr (by simp [hgt]))
  rw [BitVec.toNat_ofNat]
  omega

/-- The 9 bits of the guard time lose none of it. -/
theorem toNat_guardTime (tg : BitVec 8) : (guardTime tg).toNat = tg.toNat + 12 := by
  have hlt : tg.toNat < 256 := tg.isLt
  rw [guardTime, BitVec.toNat_ofNat, Config.minGuardEtu]
  omega

/-- Settles O11: where `derive` answers, the bounds of `deriveInvalid_iff` leave no bit to lose. -/
theorem deriveValidity : Obligations.DeriveValidity := by
  intro fi di hz tg
  refine ⟨(derive_eq_none_iff fi di hz tg).trans (deriveInvalid_iff fi di hz), fun b g hsome => ?_⟩
  have hvalid : ¬ deriveInvalid fi di hz = true := by simp [← derive_eq_none_iff fi di hz tg, hsome]
  obtain ⟨rfl, rfl⟩ : BitVec.ofNat 16 (divisor fi di) = b ∧ guardTime tg = g := by
    simpa [derive, hvalid] using hsome
  exact ⟨toNat_ofNat_divisor hvalid, toNat_guardTime tg⟩

/-! ## `DERIVE_TIMING` (R141) -/

/-- A command that fails in the step that accepts it: the response registers and the result pair (R286, R287). -/
theorem raiseConfigError_begin (op : Op) (s : State) :
    raiseConfigError (begin op s) =
      { s with resBaudDiv := none, resGuardTicks := none, rspStatus := .configError, rspDetail := .none,
               busy := false, curOp := .none, owner := .none, todo := .idle, char := .fresh, midStep := false,
               history := [.accept op, .respond .configError .none] } := rfl

theorem exec_deriveTiming_of_not_busy (d : DtArg) {s : State} (hbusy : s.busy = false) :
    exec (.deriveTiming d) s = .next (runDeriveTiming d (begin .deriveTiming s)) := by
  obtain ⟨-, hderive, -⟩ := acceptanceTable s
  exact if_pos (hderive.mpr hbusy)

theorem runDeriveTiming_of_invalid {d : DtArg} (h : derive d.fi d.di d.targetClockHz d.timeGuardEtu = none)
    (s : State) : runDeriveTiming d s = raiseConfigError s := by
  simp only [runDeriveTiming, h]

theorem runDeriveTiming_of_valid {d : DtArg} {b : BitVec 16} {g : BitVec 9}
    (h : derive d.fi d.di d.targetClockHz d.timeGuardEtu = some (b, g)) (s : State) :
    runDeriveTiming d s = respond .ok .none { s with resBaudDiv := some b, resGuardTicks := some g } := by
  simp only [runDeriveTiming, h]

/-- Settles O12, by what `derive` gives. -/
theorem deriveTimingRuns : Obligations.DeriveTimingRuns := by
  intro d s hbusy
  rw [exec_deriveTiming_of_not_busy d hbusy]
  refine ⟨fun hnone => ?invalid, fun b g hsome => ?valid⟩
  case invalid => rw [runDeriveTiming_of_invalid hnone, raiseConfigError_begin]
  case valid => rw [runDeriveTiming_of_valid hsome]; rfl

/-! ## `INIT` (R149 to R152) -/

theorem exec_init_of_not_busy (c : CfgArg) {s : State} (hbusy : s.busy = false) :
    exec (.init c) s = .next (runInit c (begin .init s)) := by
  obtain ⟨hinit, -⟩ := acceptanceTable s
  exact if_pos (hinit.mpr hbusy)

theorem cfgLegal_iff (c : CfgArg) : cfgLegal c = true ↔
    c.reserved = 0 ∧ c.protocol = 0 ∧ c.charLen = 8 ∧ c.parity = 0 ∧ c.stopBits = 2 := by
  simp only [cfgLegal, Bool.and_eq_true, beq_iff_eq, and_assoc]

theorem runInit_of_illegal {c : CfgArg} (h : ¬ cfgLegal c = true) (s : State) : runInit c s = raiseConfigError s :=
  if_neg h

theorem runInit_of_invalid {c : CfgArg} (h : derive c.fi c.di c.targetClockHz c.timeGuardEtu = none) (s : State) :
    runInit c s = raiseConfigError s := by
  simp only [runInit, h, ite_self]

theorem runInit_of_valid {c : CfgArg} {b : BitVec 16} {g : BitVec 9} (hlegal : cfgLegal c = true)
    (h : derive c.fi c.di c.targetClockHz c.timeGuardEtu = some (b, g)) (s : State) :
    runInit c s = respond .ok .none (startSession c b g s) := by
  simp only [runInit, hlegal, if_true, h]

/-- Settles O13: the legal fields and the timing leave the one arm that starts a session. -/
theorem initSucceeds : Obligations.InitSucceeds := by
  intro c b g s hbusy hreserved hprotocol hcharLen hparity hstopBits hsome
  have hlegal : cfgLegal c = true := (cfgLegal_iff c).mpr ⟨hreserved, hprotocol, hcharLen, hparity, hstopBits⟩
  rw [exec_init_of_not_busy c hbusy, runInit_of_valid hlegal hsome]
  rfl

/-- Settles O14: one illegal field is enough, and so is `Invalid`. -/
theorem initFails : Obligations.InitFails := by
  intro c s hbusy hfail
  have hrun : runInit c (begin .init s) = raiseConfigError (begin .init s) := by
    by_cases hlegal : cfgLegal c = true
    · obtain ⟨hreserved, hprotocol, hcharLen, hparity, hstopBits⟩ := (cfgLegal_iff c).mp hlegal
      have hnone : derive c.fi c.di c.targetClockHz c.timeGuardEtu = none := by
        simpa only [hreserved, hprotocol, hcharLen, hparity, hstopBits, ne_eq, not_true_eq_false, false_or] using hfail
      exact runInit_of_invalid hnone _
    · exact runInit_of_illegal hlegal _
  rw [exec_init_of_not_busy c hbusy, hrun, raiseConfigError_begin]

end Sys2Proof.Machine
end

section
/-! The moves of `rs_state` and the contacts over a card reset (41_reset_sequencer.md R163, R186): every line of a reset
makes a contact or leaves all three. -/

namespace Sys2Proof.Machine

/-! ## The table of R186 -/

theorem rsMoves_self (a : RsState) : rsMoves a a = true := by
  simp [rsMoves]

theorem rsMoves_idle (a : RsState) : rsMoves a .idle = true := by
  cases a <;> rfl

theorem rsMoves_of_eq {a b : RsState} (h : b = a) : rsMoves a b = true := h ▸ rsMoves_self a

/-! ## The contacts (R164 to R171) -/

/-- The three contact registers (R29). -/
def contacts (s : State) : Bool × Bool × Bool := (s.pinVcc, s.pinClk, s.pinRst)

theorem contacts_of_outsideCapture {s t : State} (h : outsideCapture t = outsideCapture (goto .idle s)) :
    contacts t = contacts s :=
  (congrArg contacts h :)

theorem cardRunning_congr {s t : State} (h : contacts t = contacts s) : cardRunning t = cardRunning s := by
  simp only [contacts, Prod.mk.injEq] at h
  obtain ⟨hvcc, hclk, -⟩ := h
  simp only [cardRunning, hvcc, hclk]

theorem cardRunning_of_pinsAre {r : Bool} {s : State} (h : pinsAre true true r s = true) : cardRunning s = true := by
  simp only [pinsAre, Bool.and_eq_true, beq_iff_eq] at h
  simp only [cardRunning, h, Bool.and_self]

/-- The place of a line in the sequence fixes the state it moves from. -/
theorem rsMoves_runContact {c : Contact} {s : State} (h : contactFits c s = true) :
    rsMoves s.rsState (runContact c s).rsState = true := by
  cases c <;> simp only [contactFits, Bool.and_eq_true, beq_iff_eq] at h
  case vccWait => obtain ⟨⟨-, hr⟩, -⟩ := h; rw [hr]; rfl
  case clkRstLow => obtain ⟨⟨-, hr⟩, -⟩ := h; rw [hr]; rfl
  case holdWait => obtain ⟨hr, -⟩ := h; rw [hr]; cases s.rsKind <;> rfl
  case released => obtain ⟨hr, -⟩ := h; rw [hr]; rfl
  case openWindow => obtain ⟨⟨hr, -⟩, -⟩ := h; rw [hr]; rfl
  all_goals exact rsMoves_self _

/-- The lines of a cold reset alone find the card without power or clock (R164, R165). -/
theorem cardRunning_of_contactFits {c : Contact} {s : State} (hk : s.rsKind = .warm) (h : contactFits c s = true) :
    cardRunning s = true := by
  cases c <;> simp only [contactFits, hk, Bool.and_eq_true] at h
  case warmRstLow => obtain ⟨⟨-, hvcc⟩, hclk⟩ := h; simp only [cardRunning, hvcc, hclk, Bool.and_self]
  case holdWait => obtain ⟨-, hp⟩ := h; exact cardRunning_of_pinsAre hp
  case resetFlush => obtain ⟨-, hp⟩ := h; exact cardRunning_of_pinsAre hp
  case rstHigh => obtain ⟨-, hp⟩ := h; exact cardRunning_of_pinsAre hp
  case released => obtain ⟨-, hp⟩ := h; exact cardRunning_of_pinsAre hp
  case openWindow => obtain ⟨⟨-, hp⟩, -⟩ := h; exact cardRunning_of_pinsAre hp
  all_goals simp at h

/-- Only lines of a cold reset drive the power or the clock. -/
theorem cardRunning_runContact {c : Contact} {s : State} (hk : s.rsKind = .warm) (h : contactFits c s = true) :
    cardRunning (runContact c s) = cardRunning s := by
  cases c
  case coldClkOff => simp [contactFits, hk] at h
  case coldVccOff => simp [contactFits, hk] at h
  case coldVccOn => simp [contactFits, hk] at h
  case clkOn => simp [contactFits, hk] at h
  all_goals rfl

/-! ## The capture and the results of a reception (R172 to R181) -/

/-- A line that drives no contact and leaves `rs_state` or moves it as R186 says. -/
structure SequencerMove (s t : State) : Prop where
  contacts : contacts t = contacts s
  moves : rsMoves s.rsState t.rsState = true

theorem rsMoves_atrCaptured_of_receiving {s : State} (h : receiving s = true) :
    rsMoves s.rsState .atrCaptured = true := by
  obtain ⟨-, -, -, -, hr, -⟩ := (receiving_iff s).mp h
  rw [hr]
  split <;> rfl

theorem rsState_atrProgress (s : State) : (atrProgress s).rsState = s.rsState := by
  rcases atrProgress_cases s with ⟨v, -, e⟩ | ⟨r, -, -, e⟩ | ⟨d, e⟩ | ⟨-, e⟩ <;> rw [e] <;> rfl

theorem sequencerMove_captureAtr {b : Byte} {s t : State} (hr : receiving s = true) (h : captureAtr b s = .next t) :
    SequencerMove s t := by
  refine ⟨contacts_of_outsideCapture (captureAtr_outside h), ?_⟩
  obtain ⟨-, rfl⟩ := captureAtr_eq_next h
  rw [rsState_atrProgress]
  exact rsMoves_atrCaptured_of_receiving hr

theorem sequencerMove_atrTimeout (s : State) : SequencerMove s (atrTimeout s) := by
  refine ⟨contacts_of_outsideCapture (atrTimeout_outside s), ?_⟩
  cases hr : s.rsState <;> simp only [atrTimeout, hr, goto_rsState] <;> rfl

theorem sequencerMove_atrByte (b : Byte) (s : State) : SequencerMove s (atrByte b s) := by
  unfold atrByte
  split
  · exact sequencerMove_atrTimeout s
  · exact ⟨rfl, rsMoves_self _⟩

theorem sequencerMove_rxChar {wait : Nat} {dl : Option Nat} {s t : State} (ho : s.owner = .rs)
    (hr : receiving s = true) (h : execRxChar wait dl s = .next t) : SequencerMove s t := by
  rcases execRxChar_cases wait dl s with ⟨b, e⟩ | e | e | ⟨b, -, -, e⟩ | ⟨n, -, e⟩ <;> rw [e] at h
  · rw [rxByte_of_rs ho] at h
    cases h
    exact sequencerMove_atrByte b s
  all_goals cases h
  · rw [rxTimeout_of_rs ho]
    exact sequencerMove_atrTimeout s
  · rw [rxExhausted_of_rs ho]
    exact ⟨rfl, rsMoves_atrCaptured_of_receiving hr⟩
  · exact ⟨rfl, rsMoves_self _⟩
  · rcases tryRecv_cases wait dl { s with retry := n } with e | e <;> rw [e]
    · rw [rxTimeout_of_rs (s := { s with retry := n }) ho]
      have g := sequencerMove_atrTimeout { s with retry := n }
      exact ⟨g.contacts, g.moves⟩
    · exact ⟨rfl, rsMoves_self _⟩

/-! ## Every line of a card reset -/

/-- A line of a card reset drives a contact in its place, or drives none. -/
theorem resetLine_next {s t : State} {td : Todo} (f : InReset s) (h : ResetLine s td) (run : runFlight td s = .next t) :
    (∃ c, contactFits c s = true ∧ t = runContact c s) ∨ SequencerMove s t := by
  cases h with
  | contact _ _ hc =>
    cases run
    exact .inl ⟨_, hc, rfl⟩
  | capture e hr => exact .inr (sequencerMove_captureAtr hr (e.symm.trans run))
  | rxChar _ hr => exact .inr (sequencerMove_rxChar f.owner hr run)
  | statusOk =>
    cases run
    rw [f.retireCommand]
    exact .inr ⟨rfl, rsMoves_self _⟩
  | noCard =>
    cases run
    exact .inr ⟨rfl, rsMoves_self _⟩
  | fails e =>
    cases e.symm.trans run
    rw [failAtr_of_reset f.op]
    exact .inr ⟨rfl, rsMoves_self _⟩

/-! ## The commands -/

theorem rsState_resetCommand (k : ResetKind) (s : State) :
    (resetCommand k s).rsState = s.rsState ∨ (resetCommand k s).rsState = .idle := by
  rcases resetCommand_cases k s with ⟨-, e⟩ | ⟨-, -, e⟩ | ⟨-, -, e⟩ <;> rw [e]
  · exact .inl rfl
  · exact .inr rfl
  · exact .inr rfl

theorem rsState_of_transfer {cla ins p1 p2 p3 : Byte} {data : List Byte} {i : Instr} {s t : State}
    (hi : i = .transfer cla ins p1 p2 p3 ∨ i = .transferD cla ins p1 p2 p3 data) (h : exec i s = .next t) :
    t.rsState = s.rsState := by
  rcases execTransfer_cases cla ins p1 p2 p3 data s hi with e | ⟨-, -, dp, bs, -, e⟩ <;> cases e.symm.trans h <;> rfl

/-- A successful `INIT` and an accepted reset take the sequencer to `Idle` (R150, R162); no other command moves it. -/
theorem rsState_of_command {i : Instr} {s t : State} (hi : i.isCommand = true) (h : exec i s = .next t) :
    t.rsState = s.rsState ∨ t.rsState = .idle := by
  cases i with
  | init c =>
    rcases execInit_cases c s with ⟨e, -⟩ | ⟨-, ⟨b, g, -, e⟩ | e⟩ <;> cases e.symm.trans h
    · exact .inl rfl
    · exact .inr rfl
    · exact .inl rfl
  | deriveTiming d =>
    rcases execDeriveTiming_cases d s with e | ⟨-, ⟨b, g, e⟩ | e⟩ <;> cases e.symm.trans h <;> exact .inl rfl
  | decodeAtr bs =>
    rcases execDecodeAtr_cases bs s with e | ⟨-, -, st, d, v, e⟩ <;> cases e.symm.trans h <;> exact .inl rfl
  | coldReset => cases h; exact rsState_resetCommand .cold s
  | warmReset => cases h; exact rsState_resetCommand .warm s
  | transfer => exact .inl (rsState_of_transfer (data := []) (.inl rfl) h)
  | transferD => exact .inl (rsState_of_transfer (.inr rfl) h)
  | reservedOp0 => cases h; exact .inl rfl
  | reservedOp7 => cases h; exact .inl rfl
  | _ => cases hi

theorem rsMoves_runCommand {bs : List Byte} {s t : State} (h : runCommand bs s = .next t) :
    rsMoves s.rsState t.rsState = true := by
  rcases runCommand_cases bs s with ⟨i, hd, e⟩ | e <;> rw [e] at h
  · rcases rsState_of_command (isCommand_of_decodeCommand hd) h with e | e <;> rw [e]
    · exact rsMoves_self _
    · exact rsMoves_idle _
  · cases h
    exact rsMoves_self _

/-! ## O56 and O59 -/

theorem rsMoves_of_resetLine {s t : State} (h : s.safe = true) (f : InReset s)
    (run : runFlight s.todo s = .next t) : rsMoves s.rsState t.rsState = true := by
  rcases resetLine_next f (resetLine_of_safe h f) run with ⟨c, hc, rfl⟩ | g
  · exact rsMoves_runContact hc
  · exact g.moves

/-- Settles O56: a command leaves the sequencer or takes it to `Idle`, at rest and in a transfer it stays, and each line
of a card reset moves along the table. -/
theorem resetSequencerMoves : Obligations.ResetSequencerMoves := by
  intro s t h hstep hreset
  rcases step_cases s with ⟨hf, -⟩ | ⟨bs, -, e⟩ | ⟨hmove, -, e⟩
  · exact absurd hf hreset
  · exact rsMoves_runCommand (s := takeMove s) (e.symm.trans hstep)
  · rcases inFlight_cases h with f | f | ⟨hd, c, f⟩
    · cases (step_of_idle hmove (todo_of_atRest h f)).symm.trans hstep
      exact rsMoves_self _
    · obtain ⟨u, hu, rfl⟩ := holdShownResult_eq_next (e.symm.trans hstep)
      exact rsMoves_of_resetLine (t := u) h f hu
    · have hplaces := (transferKeeps_step h f hstep hmove).atr
      simp only [atrPlaces, Prod.mk.injEq] at hplaces
      obtain ⟨-, -, -, hrs, -⟩ := hplaces
      exact rsMoves_of_eq hrs

theorem rsKind_of_warmReset {s : State} (f : InReset s) (hop : s.curOp = .warmReset) : s.rsKind = .warm := by
  cases hk : s.rsKind with
  | warm => rfl
  | cold => cases (hop.symm.trans f.op).trans (congrArg resetOp hk)

/-- In a warm reset the card runs at every line. -/
theorem cardRunning_of_warmReset {s : State} (h : s.safe = true) (f : InReset s) (hop : s.curOp = .warmReset) :
    cardRunning s = true := by
  have hline := resetLine_of_safe h f
  generalize htd : s.todo = td at hline
  cases hline with
  | contact _ _ hc => exact cardRunning_of_contactFits (rsKind_of_warmReset f hop) hc
  | capture _ hr =>
    obtain ⟨-, -, -, hp, -, -⟩ := (receiving_iff s).mp hr
    exact cardRunning_of_pinsAre hp
  | rxChar _ hr =>
    obtain ⟨-, -, -, hp, -, -⟩ := (receiving_iff s).mp hr
    exact cardRunning_of_pinsAre hp
  | statusOk hs => exact cardRunning_of_pinsAre (f.pins hs)
  | noCard =>
    have hfits := microFits_of_safe h htd
    simp only [microFits, Bool.and_eq_true] at hfits
    obtain ⟨-, hp⟩ := hfits
    exact cardRunning_of_pinsAre hp
  | fails _ hp => exact cardRunning_of_pinsAre hp

/-- Settles O59: the card runs at every line, and the next line is a contact that leaves it running or no contact. -/
theorem warmResetKeepsPower : Obligations.WarmResetKeepsPower := by
  intro s t h hop hmove hstep
  obtain ⟨howner, -⟩ := owner_of_safe h
  have f : InReset s := inReset_of_safe h (by rw [howner, hop]; rfl)
  obtain ⟨u, hu, rfl⟩ := holdShownResult_eq_next ((step_of_no_move hmove).symm.trans hstep)
  have hs : cardRunning s = true := cardRunning_of_warmReset h f hop
  have ht : cardRunning u = true := by
    rcases resetLine_next f (resetLine_of_safe h f) hu with ⟨c, hc, rfl⟩ | g
    · exact (cardRunning_runContact (rsKind_of_warmReset f hop) hc).trans hs
    · exact (cardRunning_congr g.contacts).trans hs
  simp only [cardRunning, Bool.and_eq_true] at hs ht
  obtain ⟨hvcc, hclk⟩ := ht
  exact ⟨hvcc, hclk, hs⟩

end Sys2Proof.Machine
end

section
/-! The Reset Sequencer line by line (41_reset_sequencer.md): the acceptance, the contacts and waits, the capture. -/

namespace Sys2Proof.Machine

/-! ## The end of a line (00_scope.md R13, 10_state.md R62) -/

/-- A line that ends a step of R13 shows its registers as they are. -/
theorem step_of_done {s t : State} (hmove : dueMove s = none) (run : runFlight s.todo s = .next t)
    (hmid : t.midStep = false) : step s = .next t := by
  rw [step_of_no_move hmove, run, holdShownResult, holdShown_of_done s hmid]

/-- A line that ends within a step of R13 leaves the view at the last completed one. -/
theorem step_of_begun {s t : State} (hmove : dueMove s = none) (run : runFlight s.todo s = .next t)
    (hmid : t.midStep = true) :
    step s = .next { t with shown := if s.midStep then s.shown else statusRegs s } := by
  rw [step_of_no_move hmove, run, holdShownResult, holdShown, runFlight_shown run, hmid]
  cases s.midStep <;> rfl

theorem runFlight_of_contact {s : State} {c : Contact} (h : s.todo = .contact c) :
    runFlight s.todo s = .next (runContact c s) := by
  rw [h, runFlight]

/-! ## Acceptance (R161 to R163) -/

theorem resetCommand_of_rest {k : ResetKind} {s : State} (hbusy : s.busy = false)
    (h : accepts (resetOp k) s = true) : resetCommand k s = acceptReset k s := by
  simp [resetCommand, h, transferInFlight, hbusy]

/-- Settles O15: the rows of the acceptance table with nothing in flight. -/
theorem resetAccepted : Obligations.ResetAccepted := by
  intro s hbusy hsess
  obtain ⟨-, -, -, hcold, hwarm, -⟩ := acceptanceTable s
  refine ⟨?cold, fun hvcc hclk => ?warm⟩
  case cold =>
    exact congrArg _ (resetCommand_of_rest (k := .cold) hbusy (hcold.mpr (.inl ⟨hbusy, hsess⟩)))
  case warm =>
    exact congrArg _ (resetCommand_of_rest (k := .warm) hbusy (hwarm.mpr (.inl ⟨hbusy, hsess, hvcc, hclk⟩)))

/-! ## The contacts and the windows (R164 to R172) -/

/-- Settles O17: each of the nine lines makes a primitive and so ends a step of R13. -/
theorem contactsDriven : Obligations.ContactsDriven := by
  intro s hmove
  have hline : ∀ {c : Contact}, s.todo = .contact c → (runContact c s).midStep = false →
      step s = .next (runContact c s) := fun h => step_of_done hmove (runFlight_of_contact h)
  exact ⟨fun h => hline h rfl, fun h => hline h rfl, fun h => hline h rfl, fun h => hline h rfl, fun h => hline h rfl,
    fun h => hline h rfl, fun h => hline h rfl, fun h => hline h rfl, fun h => hline h rfl⟩

/-- Settles O18: a wait ends no earlier than its time, and within a step of R13. -/
theorem minimumWaits : Obligations.MinimumWaits := by
  intro s hmove
  refine ⟨fun h => ⟨_, step_of_begun hmove (runFlight_of_contact h) rfl, ?vccWait, rfl⟩,
    fun h => ⟨_, step_of_begun hmove (runFlight_of_contact h) rfl, ?holdWait, rfl⟩⟩
  case vccWait => exact (waitUntil_now_ge (s.now + Config.vccStableCycles) _).1
  case holdWait => exact (waitUntil_now_ge (s.now + (Config.rstHoldCycles : Nat)) _).1

theorem readTMark_of_some {s : State} {m : Nat} (h : s.tMark = some m) : readTMark s = m := by
  simp [readTMark, h]

theorem runContact_openWindow {s : State} {m : Nat} (h : s.tMark = some m) :
    runContact .openWindow s =
      goto (.micro (.rxChar 40000 (some (m + 40000))))
        { s with atrDeadline := some (m + 40000), rsState := .atrWindowOpen } := by
  rw [runContact, readTMark_of_some h, Config.atrWindowCycles]

/-- Settles O19: the two lines make no primitive, so they end within a step of R13. -/
theorem windowOpens : Obligations.WindowOpens := by
  intro s hmove
  refine ⟨fun htodo => ?released, fun m hm htodo => ?openWindow⟩
  case released => exact step_of_begun hmove (runFlight_of_contact htodo) rfl
  case openWindow =>
    have run := runFlight_of_contact htodo
    rw [runContact_openWindow hm] at run
    exact step_of_begun hmove run rfl

/-! ## The progress test (R177 to R181) -/

theorem atrProgress_of_view {s : State} {v : AtrView} (h : decodeAtr (atrBytes s.atrLen.toNat s) = .ok v) :
    atrProgress s = goto (.micro .statusOk) { s with atrd := some v, atrValid := true, sessState := .active } := by
  simp only [atrProgress, h]

theorem atrProgress_of_needs {s : State} {role : AtrRole}
    (h : decodeAtr (atrBytes s.atrLen.toNat s) = .error (.needs role)) :
    atrProgress s =
      if s.atrLen.toNat < Config.atrMax then awaitAtrChar s else goto (.micro (.statusMalformedAtr .truncated)) s := by
  simp only [atrProgress, h]

theorem awaitAtrChar_of_baudDiv {s : State} {b : BitVec 16} (h : s.baudDiv = some b) :
    awaitAtrChar s = goto (.micro (.rxChar ((Config.atrCharTimeoutEtu : Nat) * b.toNat) none)) s := by
  rw [awaitAtrChar, cycles, readBaudDiv_of_some h]

theorem atrProgress_of_badTs {s : State} (h : decodeAtr (atrBytes s.atrLen.toNat s) = .error .badTs) :
    atrProgress s = goto (.micro (.statusMalformedAtr .badTs)) s := by
  simp only [atrProgress, h]

theorem atrProgress_of_checksum {s : State} (h : decodeAtr (atrBytes s.atrLen.toNat s) = .error .checksum) :
    atrProgress s = goto (.micro .statusChecksumError) s := by
  simp only [atrProgress, h]

/-- Settles O21, by what the decoder answers; where it needs more, by the room there is. -/
theorem atrProgressTest : Obligations.AtrProgressTest := by
  intro s
  refine ⟨fun v h => ?view, fun role b h hbaud hroom => ?more, fun role h hfull => ?full, fun h => ?badTs,
    fun h => ?checksum⟩
  case view => rw [atrProgress_of_view h]; rfl
  case more => rw [atrProgress_of_needs h, if_pos hroom, awaitAtrChar_of_baudDiv hbaud]; rfl
  case full => rw [atrProgress_of_needs h, if_neg hfull.not_lt]; rfl
  case badTs => rw [atrProgress_of_badTs h]; rfl
  case checksum => rw [atrProgress_of_checksum h]; rfl

/-! ## The append (R172, R176) -/

/-- The character appended at `atr_len`, the progress test made, and nothing else of the state touched. -/
def Captured (b : Byte) (s r : State) : Prop :=
  (∀ j, memRead r.atr j = if j = s.atrLen.toNat then some b else memRead s.atr j) ∧
  r.atrLen.toNat = s.atrLen.toNat + 1 ∧
  r = atrProgress { s with atr := r.atr, atrLen := r.atrLen, rsState := .atrCaptured } ∧
  r = { s with atr := r.atr, atrLen := r.atrLen, rsState := .atrCaptured, atrd := r.atrd, atrValid := r.atrValid,
               sessState := r.sessState, todo := r.todo, char := .fresh, midStep := true }

theorem memRead_memWrite (m : Memory) (i j : Nat) (v : Byte) :
    memRead (memWrite m i v) j = if j = i then some v else memRead m j := by
  split
  · rename_i h
    rw [h, memRead_memWrite_same]
  · rename_i h
    exact memRead_memWrite_other m v h

/-- The progress test writes the view, the session state and the place in the pseudocode alone. -/
theorem atrProgress_frame (s : State) :
    atrProgress s = { s with atrd := (atrProgress s).atrd, atrValid := (atrProgress s).atrValid,
                             sessState := (atrProgress s).sessState, todo := (atrProgress s).todo, char := .fresh,
                             midStep := true } := by
  rcases atrProgress_cases s with ⟨v, -, e⟩ | ⟨r, -, -, e⟩ | ⟨d, e⟩ | ⟨-, e⟩ <;> rw [e] <;> rfl

theorem captured_atrProgress {s : State} (hroom : s.atrLen.toNat < Config.atrMax) (b : Byte) :
    Captured b s (atrProgress (appendAtr b s)) := by
  have hframe := atrProgress_frame (appendAtr b s)
  have hatr : (atrProgress (appendAtr b s)).atr = memWrite s.atr s.atrLen.toNat b := by rw [hframe]; rfl
  have hlen : (atrProgress (appendAtr b s)).atrLen = s.atrLen + 1 := by rw [hframe]; rfl
  refine ⟨fun j => ?read, ?length, ?progress, ?frame⟩
  case read => rw [hatr, memRead_memWrite]
  case length => rw [hlen, toNat_atrLen_succ hroom]
  case progress => rw [hatr, hlen]; rfl
  case frame => rw [hatr, hlen]; exact hframe

/-- Each row of an ATR character's format is the capture of its character. -/
theorem exec_atrRow {y1 k y t : BitVec 4} {tck : Byte} {p : Instr × Byte}
    (h : p ∈ [(Instr.atrTsDirect, (0x3B : Byte)), (.atrTsInverse, 0x3F), (.atrT0 y1 k, joinNibbles y1 k),
      (.atrTd y t, joinNibbles y t), (.atrTck tck, tck)]) (s : State) : exec p.1 s = captureAtr p.2 s := by
  simp only [List.mem_cons, List.not_mem_nil, or_false] at h
  rcases h with rfl | rfl | rfl | rfl | rfl <;> rfl

/-- Settles O20: with a format or without, the line is the capture, which there is room for. -/
theorem atrCharactersAppended : Obligations.AtrCharactersAppended := by
  intro s hroom
  refine ⟨fun y1 k y t tck p hp => ⟨_, ?row, captured_atrProgress hroom p.2⟩,
    fun b hmove htodo => ⟨_, ?line, captured_atrProgress hroom b⟩⟩
  case row => rw [exec_atrRow hp, captureAtr_of_room hroom]
  case line =>
    have run : runFlight s.todo s = .next (atrProgress (appendAtr b s)) := by
      rw [htodo, runFlight, captureAtr_of_room hroom]
    exact step_of_begun hmove run (by rw [atrProgress_frame])

end Sys2Proof.Machine
end

section
/-! The ATR Decoder over any bytes (42_atr_decoder.md R191 to R203): the three ways its walk ends, what follows of longer
and shorter inputs, and the command `DECODE_ATR`. -/

namespace Sys2Proof.Machine

/-! ## The walk up to TCK: it goes through, or a byte is missing (R201) -/

/-- A part of the walk that has no check of its own: it goes through, or a byte it needs is missing. -/
def PassesOrNeeds {α : Type} (m : Except AtrStop α) : Prop := (∃ a, m = .ok a) ∨ ∃ role, m = .error (.needs role)

theorem PassesOrNeeds.ok {α : Type} (a : α) : PassesOrNeeds (.ok a) := .inl ⟨a, rfl⟩

theorem PassesOrNeeds.bind {α β : Type} {m : Except AtrStop α} {f : α → Except AtrStop β} (hm : PassesOrNeeds m)
    (hf : ∀ a, PassesOrNeeds (f a)) : PassesOrNeeds (m.bind f) := by
  obtain ⟨a, rfl⟩ | ⟨role, rfl⟩ := hm
  · exact hf a
  · exact .inr ⟨role, rfl⟩

/-- What follows such a part is met when it goes through. -/
theorem PassesOrNeeds.bind_cases {α β : Type} {m : Except AtrStop α} (hm : PassesOrNeeds m)
    (f : α → Except AtrStop β) :
    (∃ role, m.bind f = .error (.needs role)) ∨ ∃ a, m = .ok a ∧ m.bind f = f a := by
  obtain ⟨a, rfl⟩ | ⟨role, rfl⟩ := hm
  · exact .inr ⟨a, rfl, rfl⟩
  · exact .inl ⟨role, rfl⟩

theorem takeByte_passesOrNeeds (role : AtrRole) (bs : List Byte) : PassesOrNeeds (takeByte role bs) := by
  cases bs with
  | nil => exact .inr ⟨role, rfl⟩
  | cons b bs => exact .ok (b, bs)

theorem takeIf_passesOrNeeds (present : Bool) (role : AtrRole) (bs : List Byte) :
    PassesOrNeeds (takeIf present role bs) := by
  cases present with
  | false => exact .ok (none, bs)
  | true =>
    cases bs with
    | nil => exact .inr ⟨role, rfl⟩
    | cons b bs => exact .ok (some b, bs)

theorem takeGroup_passesOrNeeds (gi : Nat) (proto : Option (BitVec 4)) (y : BitVec 4) (x : Byte) (bs : List Byte) :
    PassesOrNeeds (takeGroup gi proto y x bs) := by
  rw [takeGroup_eq]
  exact (takeIf_passesOrNeeds _ _ _).bind fun _ => (takeIf_passesOrNeeds _ _ _).bind fun _ =>
    (takeIf_passesOrNeeds _ _ _).bind fun _ => (takeIf_passesOrNeeds _ _ _).bind fun _ => .ok _

theorem takeGroups_passesOrNeeds (fuel : Nat) (y : BitVec 4) (gi : Nat) (proto : Option (BitVec 4)) (needed : Bool)
    (groups : List AtrGroup) (x : Byte) (bs : List Byte) :
    PassesOrNeeds (takeGroups fuel y gi proto needed groups x bs) := by
  induction fuel generalizing y gi proto needed groups x bs with
  | zero => exact .inr ⟨.td, rfl⟩
  | succ fuel ih =>
    by_cases hy : y = 0
    · simp only [takeGroups, hy, if_true]
      exact .ok _
    rw [takeGroups_succ hy]
    refine (takeGroup_passesOrNeeds gi proto y x bs).bind fun (g, x', rest) => ?_
    dsimp only
    split
    · exact .ok _
    · exact ih ..

theorem takeHist_passesOrNeeds (k : Nat) (x : Byte) (bs : List Byte) : PassesOrNeeds (takeHist k x bs) := by
  induction k generalizing x bs with
  | zero => exact .ok _
  | succ k ih =>
    rw [takeHist_succ]
    exact (takeByte_passesOrNeeds .hist bs).bind fun (h, rest) => (ih (x ^^^ h) rest).bind fun _ => .ok _

/-- The one part with a check of its own: its byte is missing, or it is read, whatever the check says (R199). -/
theorem takeTck_cases (needed : Bool) (x : Byte) (bs : List Byte) :
    takeTck needed x bs = .error (.needs .tck) ∨
    ∃ (tck : Option Byte) (rest : List Byte), tck.isSome = needed ∧ bs = optByte tck ++ rest := by
  cases needed with
  | false => exact .inr ⟨none, bs, rfl, rfl⟩
  | true =>
    cases bs with
    | nil => exact .inl rfl
    | cons b bs => exact .inr ⟨some b, bs, rfl, rfl⟩

/-! ## The three ways the decoder ends -/

/-- `decodeBody_eq_ok` without the outcome: where no byte is missing, the parts of a view have been read. -/
theorem decodeBody_cases (n : Nat) (ts t0 : Byte) (bs : List Byte) :
    (∃ role, decodeBody n ts t0 bs = .error (.needs role)) ∨
    ∃ gs hist tck rest, chained none (hiNibble t0) 1 gs = true ∧ hist.length = (loNibble t0).toNat ∧
      tck.isSome = declaresOther gs ∧ bs = (gs.map AtrGroup.bytes).flatten ++ (hist ++ optByte tck) ++ rest := by
  rw [decodeBody_eq]
  have hwalk : PassesOrNeeds (walkGroups (hiNibble t0) 1 none false [] t0 bs) := takeGroups_passesOrNeeds ..
  rcases hwalk.bind_cases _ with hneeds | ⟨⟨groups, needed, x, bs1⟩, hg, e⟩
  case inl => exact .inl hneeds
  obtain ⟨gs, hchain, rfl⟩ := takeGroups_eq_ok hg
  cases ((reads_walkGroups hchain false [] t0).whole bs1).symm.trans hg
  rw [e]
  dsimp only
  rcases (takeHist_passesOrNeeds (loNibble t0).toNat _ bs1).bind_cases _ with
    hneeds | ⟨⟨hist, x', bs2⟩, hhist, e⟩
  case inl => exact .inl hneeds
  obtain ⟨hlen, rfl⟩ := takeHist_eq_ok hhist
  rw [e]
  rcases takeTck_cases (declaresOther gs) x' bs2 with htck | ⟨tck, rest, htck, rfl⟩
  · exact .inl ⟨.tck, congrArg (Except.bind · _) htck⟩
  · exact .inr ⟨gs, hist, tck, rest, hchain, hlen, htck, by simp only [List.append_assoc]⟩

/-- Bytes end before the structure they declare does, or begin with an illegal TS, or begin with the bytes of a view. -/
theorem decodeAtr_cases (bs : List Byte) :
    (∃ role, decodeAtr bs = .error (.needs role)) ∨
    (∃ ts rest, (ts != 0x3B && ts != 0x3F) = true ∧ bs = ts :: rest) ∨
    ∃ (v : AtrView) (rest : List Byte), v.structured = true ∧ bs = v.bytes ++ rest := by
  match bs with
  | [] => exact .inl ⟨.ts, rfl⟩
  | ts :: bs =>
    cases hts : (ts != 0x3B && ts != 0x3F) with
    | true => exact .inr (.inl ⟨ts, bs, hts, rfl⟩)
    | false =>
      match bs with
      | [] => exact .inl ⟨.t0, decodeAtr_single hts⟩
      | t0 :: body =>
        rw [decodeAtr_cons_cons hts]
        rcases decodeBody_cases (ts :: t0 :: body).length ts t0 body with
          hneeds | ⟨gs, hist, tck, rest, hchain, hlen, htck, rfl⟩
        · exact .inl hneeds
        · refine .inr (.inr ⟨viewOf ts t0 gs hist tck, rest, structured_viewOf hts hchain hlen htck, ?_⟩)
          rw [bytes_eq]
          rfl

/-- `decodeAtr_bytes` with bytes left over: the check comes before them (R199, R200). -/
theorem decodeAtr_append {v : AtrView} (h : v.structured = true) {rest : List Byte} (hrest : rest ≠ []) :
    decodeAtr (v.bytes ++ rest) = if v.checked = true then .error .trailing else .error .checksum := by
  rw [bytes_eq, List.cons_append, List.cons_append, decodeAtr_cons_cons (ts_legal h), (reads_decodeBody h _).whole]
  simp [hrest]

/-! ## Longer and shorter inputs (R203) -/

/-- The answer once more bytes follow, from an answer that names no missing byte. -/
def answerWithMore : Except AtrStop AtrView → Except AtrStop AtrView
  | .ok _ => .error .trailing
  | .error stop => .error stop

/-- An answer that names no missing byte is settled: more bytes make a view trail, and leave an error as it is. -/
theorem decodeAtr_longer (bs : List Byte) {more : List Byte} (hmore : more ≠ []) :
    (∃ role, decodeAtr bs = .error (.needs role)) ∨ decodeAtr (bs ++ more) = answerWithMore (decodeAtr bs) := by
  rcases decodeAtr_cases bs with hneeds | ⟨ts, rest, hts, rfl⟩ | ⟨v, rest, hv, rfl⟩
  case inl => exact .inl hneeds
  case inr.inl =>
    right
    rw [List.cons_append, decodeAtr_illegal hts, decodeAtr_illegal hts]
    rfl
  case inr.inr =>
    right
    rw [List.append_assoc, decodeAtr_append hv (List.append_ne_nil_of_right_ne_nil rest hmore)]
    rcases eq_or_ne rest [] with rfl | hrest
    · rw [List.append_nil, decodeAtr_bytes hv]
      split <;> rfl
    · rw [decodeAtr_append hv hrest]
      split <;> rfl

/-- Settles O23: the shorter input has a settled answer, which the longer one shows, or names its missing byte. -/
theorem decoderPrefixes : Obligations.DecoderPrefixes := by
  refine ⟨rfl, fun b rest hdirect hinverse => decodeAtr_illegal ?illegal rest, fun bs more hmore => ?_⟩
  case illegal => rw [bne_iff_ne.mpr hdirect, bne_iff_ne.mpr hinverse, Bool.and_self]
  rcases decodeAtr_longer bs hmore with ⟨role, hshort⟩ | hlong
  case inl =>
    simp only [hshort, reduceCtorEq, Except.error.injEq, false_implies, implies_true, true_and, AtrStop.needs.injEq,
      exists_eq', or_true]
  case inr =>
    rw [hlong]
    rcases decodeAtr bs with stop | v
    · cases stop <;> simp [answerWithMore]
    · simp [answerWithMore]

/-! ## `DECODE_ATR` (R190) -/

/-- What `DECODE_ATR` leaves in `DECD` and in the response registers. -/
structure DecodeOutcome where
  decd : Option AtrView
  status : Status
  detail : Detail

/-- What `DECODE_ATR` makes of the decoder's answer (R126, R190, R289). -/
def decodeOutcome : Except AtrStop AtrView → DecodeOutcome
  | .ok v => ⟨some v, .ok, .none⟩
  | .error (.needs _) => ⟨none, .malformedAtr, .truncated⟩
  | .error .badTs => ⟨none, .malformedAtr, .badTs⟩
  | .error .trailing => ⟨none, .malformedAtr, .trailing⟩
  | .error .checksum => ⟨none, .checksumError, .none⟩

/-- The completion of `DECODE_ATR` with an outcome (R286). -/
def respondDecoded (outcome : DecodeOutcome) (s : State) : State :=
  respond outcome.status outcome.detail { s with decd := outcome.decd }

theorem runDecodeAtr_eq {s : State} (hop : s.curOp = .decodeAtr) :
    runDecodeAtr s = respondDecoded (decodeOutcome (decodeAtr (rawBytes s.rawLen.toNat s))) s := by
  have hfail : failAtr s = { s with decd := none } := by simp only [failAtr, hop]
  unfold runDecodeAtr
  rcases decodeAtr (rawBytes s.rawLen.toNat s) with stop | v
  · cases stop <;> simp only [raiseMalformedAtr, raiseChecksumError, hfail, respondDecoded, decodeOutcome]
  · rfl

theorem exec_decodeAtr_of_not_busy {bs : List Byte} (hlen : bs.length ≤ Config.atrMax) {s : State}
    (hbusy : s.busy = false) :
    exec (.decodeAtr bs) s =
      .next (respondDecoded (decodeOutcome (decodeAtr bs)) (loadRaw bs (begin .decodeAtr s))) := by
  obtain ⟨-, -, hdecode, -⟩ := acceptanceTable s
  have haccept : (accepts .decodeAtr s && decide (bs.length ≤ Config.atrMax)) = true := by
    rw [hdecode.mpr hbusy, decide_eq_true hlen, Bool.and_self]
  have hraw : rawBytes (loadRaw bs (begin .decodeAtr s)).rawLen.toNat (loadRaw bs (begin .decodeAtr s)) = bs := by
    rw [loadRaw, toNat_ofNat_of_le_atrMax hlen]
    exact rawBytes_loadRaw bs _
  have hrun := runDecodeAtr_eq (s := loadRaw bs (begin .decodeAtr s)) rfl
  rw [hraw] at hrun
  exact (if_pos haccept).trans (congrArg _ hrun)

/-- Settles O26: RAW is what `loadRaw` makes of the argument, and each answer of the decoder has its outcome. -/
theorem decodeAtrRuns : Obligations.DecodeAtrRuns := by
  intro bs s hbusy hlen
  refine ⟨_, exec_decodeAtr_of_not_busy hlen hbusy, memRead_memOfBytes bs, toNat_ofNat_of_le_atrMax hlen, rfl,
    fun v h => ?view, fun role h => ?needs, fun h => ?badTs, fun h => ?trailing, fun h => ?checksum⟩
  all_goals
    rw [h]
    exact ⟨rfl, rfl, rfl⟩

end Sys2Proof.Machine
end

section
/-! The character/parity retry controller (43_char_retry.md): one pass of the loop of `TX_CHAR` and of `RX_CHAR` by
where the loop stands, and what each result is to its caller. -/

namespace Sys2Proof.Machine

/-! ## `TX_CHAR` (R222) -/

theorem exec_txChar_of_first (b : Byte) {s : State} (hchar : ∀ n, s.char ≠ .sent n) :
    exec (.txChar b) s = .next (trySend b { s with retry := 0 }) := by
  rw [exec, execTxChar]
  split
  case h_1 h => exact absurd h (hchar false)
  case h_2 h => exact absurd h (hchar true)
  all_goals rfl

theorem exec_txChar_of_signalled (b : Byte) {s : State} (hchar : s.char = .sent true) :
    exec (.txChar b) s =
      if s.retry = s.cfgMaxIterations then .next (sendExhausted s)
      else .next (trySend b { s with retry := s.retry + 1 }) := by
  simp only [exec, execTxChar, hchar]

theorem exec_txChar_of_taken (b : Byte) {s : State} (hchar : s.char = .sent false) :
    exec (.txChar b) s = .next (sentByte s) := by
  simp only [exec, execTxChar, hchar]

/-- Settles O27: the first sending and the one after an error signal are both a `trySend`. -/
theorem txCharSends : Obligations.TxCharSends := by
  rintro b s r (⟨hchar, rfl⟩ | ⟨hchar, hbudget, rfl⟩)
  case inl => rw [exec_txChar_of_first b hchar]; rfl
  case inr => rw [exec_txChar_of_signalled b hchar, if_neg hbudget]; rfl

/-! ### The character after one taken (R243, R248, R250) -/

theorem awaitCardByte_of_baudDiv {s : State} {d : BitVec 16} (hbaud : s.baudDiv = some d) :
    awaitCardByte s = goto (.micro (.rxChar ((Config.wwtEtu : Nat) * d.toNat) none)) s := by
  rw [awaitCardByte, cycles, readBaudDiv_of_some hbaud]

theorem dataOutLoop_of_lt {s : State} {h : Header} {c : Byte} (hhdr : s.hdr = some h)
    (hidx : s.idx.toNat < h.p3.toNat) (hdout : memRead s.dout s.idx.toNat = some c) :
    dataOutLoop s = goto (.micro (.txChar c)) s := by
  rw [dataOutLoop, readHdr_of_some hhdr, if_pos hidx, readDout, hdout, Option.getD_some]

theorem dataOutLoop_of_le {s : State} {h : Header} (hhdr : s.hdr = some h) (hidx : h.p3.toNat ≤ s.idx.toNat) :
    dataOutLoop s = awaitCardByte s := by
  rw [dataOutLoop, readHdr_of_some hhdr, if_neg hidx.not_gt]

theorem exec_txChar_of_dataOut (b : Byte) {s : State} (hchar : s.char = .sent false) (hstate : s.xferState = .dataOut) :
    exec (.txChar b) s = .next (dataOutLoop { s with idx := s.idx + 1 }) := by
  rw [exec_txChar_of_taken b hchar, sentByte_of_dataOut hstate, ← hstate]

/-- Settles O28: the loop heads of `SendHeader` and of `DataOut` say what follows. -/
theorem txCharReturns : Obligations.TxCharReturns := by
  intro b s h d hhdr hbaud
  refine ⟨fun hchar hspent => ?exhausted, fun hchar hstate => ?header, fun c hchar hstate hidx hdout => ?data,
    fun hchar hstate hidx => ?status⟩
  case exhausted => rw [exec_txChar_of_signalled b hchar, if_pos hspent]; rfl
  case header => rw [exec_txChar_of_taken b hchar, sentByte_of_sendHeader hstate, readHdr_of_some hhdr, ← hstate]; rfl
  case data => exact (exec_txChar_of_dataOut b hchar hstate).trans (congrArg _ (dataOutLoop_of_lt hhdr hidx hdout))
  case status =>
    have hstop := (dataOutLoop_of_le (s := { s with idx := s.idx + 1 }) hhdr hidx).trans
      (awaitCardByte_of_baudDiv hbaud)
    exact (exec_txChar_of_dataOut b hchar hstate).trans (congrArg _ hstop)

/-! ## `RX_CHAR` (R225): the head of its loop -/

theorem deadlinePassed_eq_false {dl : Option Nat} {s : State} (h : ∀ d, dl = some d → s.now < d) :
    deadlinePassed dl s = false := by
  cases dl with
  | none => rfl
  | some d => exact decide_eq_false (h d rfl).not_ge

theorem exec_rxChar_of_nacked (wait : Nat) (dl : Option Nat) {s : State} (hchar : s.char = .nacked) :
    exec (.rxChar wait dl) s = .next (tryRecv wait dl s) := by
  simp only [exec, execRxChar, hchar]

theorem exec_rxChar_of_first (wait : Nat) (dl : Option Nat) {s : State} (hgot : ∀ a, s.char ≠ .got a)
    (hnacked : s.char ≠ .nacked) :
    exec (.rxChar wait dl) s = .next (tryRecv wait dl { s with retry := 0 }) := by
  rw [exec, execRxChar]
  split
  case h_1 h => exact absurd h (hgot _)
  case h_2 h => exact absurd h (hgot _)
  case h_3 h => exact absurd h (hgot _)
  case h_4 h => exact absurd h hnacked
  all_goals rfl

/-- Settles O29: with the deadline ahead, the head of the loop makes its `ChRecv`. -/
theorem rxCharReceives : Obligations.RxCharReceives := by
  intro wait dl s r hgot hretry hahead
  refine ⟨recvTimeout wait dl s, rfl, ?_⟩
  have htry : exec (.rxChar wait dl) s = .next (tryRecv wait dl { s with retry := r }) := by
    rcases hretry with ⟨hchar, rfl⟩ | ⟨hchar, rfl⟩
    · exact exec_rxChar_of_nacked wait dl hchar
    · exact exec_rxChar_of_first wait dl hgot hchar
  have hopen : ¬ deadlinePassed dl { s with retry := r } = true := ne_true_of_eq_false (deadlinePassed_eq_false hahead)
  rw [htry, tryRecv, if_neg hopen, Nat.add_assoc]
  rfl

/-! ## The timeout of `RX_CHAR` (R225) and its callers (R172, R178, R253) -/

theorem tryRecv_of_passed (wait : Nat) {dl : Option Nat} {d : Nat} {s : State} (hdl : dl = some d) (h : d ≤ s.now) :
    tryRecv wait dl s = rxTimeout s := by
  subst hdl
  exact if_pos (decide_eq_true h)

/-- Both timeouts are one to the caller. -/
theorem exec_rxChar_of_timeout (wait : Nat) {dl : Option Nat} {s u : State}
    (h : s.char = .got .timeout ∧ u = s ∨
      (∃ d, dl = some d ∧ d ≤ s.now) ∧ (s.char = .nacked ∧ u = s ∨ s.char = .fresh ∧ u = { s with retry := 0 })) :
    exec (.rxChar wait dl) s = .next (rxTimeout u) ∧ u.owner = s.owner ∧ u.rsState = s.rsState := by
  rcases h with ⟨hchar, rfl⟩ | ⟨⟨d, hdl, hpassed⟩, ⟨hchar, rfl⟩ | ⟨hchar, rfl⟩⟩
  case inl => exact ⟨by simp only [exec, execRxChar, hchar], rfl, rfl⟩
  case inr.inl =>
    exact ⟨(exec_rxChar_of_nacked wait dl hchar).trans (congrArg _ (tryRecv_of_passed wait hdl hpassed)), rfl, rfl⟩
  case inr.inr =>
    have hfirst := exec_rxChar_of_first wait dl (s := s) (by simp [hchar]) (by simp [hchar])
    exact ⟨hfirst.trans (congrArg _ (tryRecv_of_passed wait hdl hpassed)), rfl, rfl⟩

theorem atrTimeout_of_windowOpen {s : State} (h : s.rsState = .atrWindowOpen) :
    atrTimeout s = goto (.micro .statusNoCardResponse) { s with rsState := .atrTimeout } := by
  simp only [atrTimeout, h]

theorem atrTimeout_of_not_windowOpen {s : State} (h : s.rsState ≠ .atrWindowOpen) :
    atrTimeout s = goto (.micro (.statusMalformedAtr .truncated)) s := by
  rw [atrTimeout]
  split
  case h_1 hopen => exact absurd hopen h
  all_goals rfl

/-- Settles O30, by the owner of the channel and the state of the sequencer. -/
theorem rxCharTimesOut : Obligations.RxCharTimesOut := by
  intro wait dl s u h
  obtain ⟨hexec, hcaller, hsequencer⟩ := exec_rxChar_of_timeout wait h
  rw [hexec, ← hcaller, ← hsequencer]
  refine ⟨fun howner => ?xfer, fun howner hopen => ?windowOpen, fun howner hstate => ?captured⟩
  case xfer => rw [rxTimeout_of_xfer howner]; rfl
  case windowOpen => rw [rxTimeout_of_rs howner, atrTimeout_of_windowOpen hopen]; rfl
  case captured => rw [rxTimeout_of_rs howner, atrTimeout_of_not_windowOpen hstate]; rfl

/-! ## A character with wrong parity (R225, R226, R232) -/

theorem inack_of_cfg {s : State} {c : SessionConfig} (hcfg : s.cfg = some c) : inack s = c.nackInhibit.getLsbD 0 := by
  simp only [inack, readNackInhibit, hcfg]

theorem exec_rxChar_of_parity (wait : Nat) (dl : Option Nat) {b : Byte} {s : State}
    (hchar : s.char = .got (.parity b)) :
    exec (.rxChar wait dl) s =
      if inack s then rxByte b s
      else if s.retry = s.cfgMaxIterations then .next (rxExhausted s)
      else .next (nackAndRetry wait dl s) := by
  simp only [exec, execRxChar, hchar]

/-- Settles O31, by the budget and, where it is spent, by the owner of the channel. -/
theorem rxCharParityError : Obligations.RxCharParityError := by
  intro wait dl b c s hchar hcfg hclear
  have hinack : ¬ inack s = true := by rw [inack_of_cfg hcfg, hclear]; exact Bool.false_ne_true
  have hexec := (exec_rxChar_of_parity wait dl hchar).trans (if_neg hinack)
  refine ⟨fun hbudget => ?retry, fun hspent howner => ?xfer, fun hspent howner => ?reset⟩
  case retry => rw [hexec, if_neg hbudget]; rfl
  case xfer => rw [hexec, if_pos hspent, rxExhausted_of_xfer howner]; rfl
  case reset => rw [hexec, if_pos hspent, rxExhausted_of_rs howner]; rfl

/-! ### Where the loop stood is forgotten with the character: what it leads to begins the next one anew -/

theorem goto_of_char (t : Todo) (s : State) (p : CharPhase) : goto t { s with char := p } = goto t s := rfl

theorem atrByte_of_char (b : Byte) (s : State) (p : CharPhase) : atrByte b { s with char := p } = atrByte b s := rfl

theorem xferByte_of_char (b : Byte) (s : State) (p : CharPhase) : xferByte b { s with char := p } = xferByte b s := rfl

theorem rxByte_of_char (b : Byte) (s : State) (p : CharPhase) : rxByte b { s with char := p } = rxByte b s := by
  simp only [rxByte, atrByte_of_char, xferByte_of_char, goto_of_char]

/-- Settles O32: with `INACK` set either answer is `rxByte`. -/
theorem inhibitTakesWrongParity : Obligations.InhibitTakesWrongParity := by
  intro wait dl b c s hchar hcfg hset
  calc exec (.rxChar wait dl) s
      = rxByte b s := by rw [exec_rxChar_of_parity wait dl hchar, if_pos ((inack_of_cfg hcfg).trans hset)]
    _ = rxByte b { s with char := .got (.byte b) } := (rxByte_of_char b s _).symm
    _ = exec (.rxChar wait dl) { s with char := .got (.byte b) } := rfl

end Sys2Proof.Machine
end

section
/-! The moves of `xfer_state` and what a transfer leaves alone (44_tpdu_transfer.md R240, R255; 41_reset_sequencer.md
R184): one walk over the lines of a transfer for both. -/

namespace Sys2Proof.Machine

/-! ## The table of R255 -/

theorem xferMoves_self (a : XferState) : xferMoves a a = true := by
  simp [xferMoves]

theorem xferMoves_idle (a : XferState) : xferMoves a .idle = true := by
  cases a <;> rfl

theorem xferMoves_of_eq {a b : XferState} (h : b = a) : xferMoves a b = true := h ▸ xferMoves_self a

/-- A phase in which the transfer waits for a character may be its last. -/
theorem xferMoves_complete_of_listening {s : State} (h : listening s = true) :
    xferMoves s.xferState .complete = true := by
  unfold listening at h
  split at h
  case h_1 hx => rw [hx]; rfl
  case h_2 hx => rw [hx]; rfl
  case h_3 hx => rw [hx]; rfl
  all_goals cases h

/-! ## The phase after a line -/

@[simp] theorem dataOutLoop_xferState (s : State) : (dataOutLoop s).xferState = s.xferState := by
  unfold dataOutLoop
  split <;> rfl

@[simp] theorem dataInLoop_xferState (s : State) : (dataInLoop s).xferState = s.xferState := by
  unfold dataInLoop
  split <;> rfl

@[simp] theorem sentByte_xferState (s : State) : (sentByte s).xferState = s.xferState := by
  unfold sentByte
  split
  case h_2 => exact dataOutLoop_xferState _
  all_goals rfl

theorem statusByte_xferState (b : Byte) (s : State) :
    (statusByte b s).xferState = s.xferState ∨ (statusByte b s).xferState = .complete := by
  rcases statusByte_cases b s with ⟨-, e⟩ | ⟨-, e⟩ <;> rw [e]
  · exact .inl rfl
  · exact .inr rfl

theorem procedureByte_xferState (b : Byte) (s : State) :
    (procedureByte b s).xferState = s.xferState ∨ (procedureByte b s).xferState = .complete := by
  rcases procedureByte_cases b s with ⟨-, e⟩ | ⟨-, e⟩ <;> rw [e]
  · exact .inl rfl
  · exact .inr rfl

theorem xferState_of_dataInByte {b : Byte} {s t : State} (h : dataInByte b s = .next t) :
    t.xferState = s.xferState ∨ t.xferState = .complete := by
  rcases dataInByte_eq_next h with ⟨-, -, rfl⟩ | ⟨-, rfl⟩
  · exact .inl (dataInLoop_xferState _)
  · exact statusByte_xferState b s

/-- A received character leaves the phase, or is SW2 (R247, R250). -/
theorem xferState_of_xferByte {b : Byte} {s t : State} (h : xferByte b s = .next t) :
    t.xferState = s.xferState ∨ t.xferState = .complete := by
  unfold xferByte at h
  split at h
  case h_3 => exact xferState_of_dataInByte h
  all_goals cases h
  · exact procedureByte_xferState b s
  · exact statusByte_xferState b s
  all_goals exact .inl rfl

/-- The loop head of `SendHeader` stays in it, or goes on to the procedure byte (R243). -/
theorem xferState_of_execTpduHdr {cla ins p1 p2 p3 : Byte} {s t : State}
    (h : execTpduHdr cla ins p1 p2 p3 s = .next t) :
    t.xferState = s.xferState ∨ t.xferState = .awaitProcedureByte := by
  unfold execTpduHdr at h
  split at h <;> cases h
  · exact .inl rfl
  · exact .inr rfl

theorem xferMoves_ackReaction {s : State} (hphase : s.xferState = .awaitProcedureByte) :
    xferMoves s.xferState (ackReaction s).xferState = true := by
  rcases ackReaction_cases s with ⟨-, e⟩ | ⟨-, e⟩ | ⟨-, e⟩ <;> rw [e]
  · exact xferMoves_self _
  · rw [dataOutLoop_xferState, hphase]; rfl
  · rw [dataInLoop_xferState, hphase]; rfl

/-! ## Every line of a transfer -/

/-- What no line of a transfer writes: the session, the ATR, `rs_state` and the contacts (R184, R240). -/
def sessionPlaces (s : State) :
    (SessState × Option SessionConfig × BitVec 8 × Option (BitVec 16) × Option (BitVec 9)) ×
      (Memory × BitVec 8 × Bool × Option AtrView) × RsState × Bool × Bool × Bool :=
  ((s.sessState, sessionTiming s), (s.atr, s.atrLen, s.atrValid, s.atrd), s.rsState, contacts s)

/-- A line that leaves these places and leaves `xfer_state` or moves it as R255 says. -/
structure TransferMove (s t : State) : Prop where
  session : sessionPlaces t = sessionPlaces s
  moves : xferMoves s.xferState t.xferState = true

theorem sessionPlaces_of_outsideTransfer {s t : State} (h : outsideTransfer t = outsideTransfer (goto .idle s)) :
    sessionPlaces t = sessionPlaces s :=
  (congrArg sessionPlaces h :)

theorem transferMove_txChar {b : Byte} {s t : State} (h : execTxChar b s = .next t) : TransferMove s t := by
  rcases execTxChar_cases b s with e | e | ⟨n, -, e⟩ <;> cases e.symm.trans h
  · exact ⟨sessionPlaces_of_outsideTransfer (sentByte_outside s), xferMoves_of_eq (sentByte_xferState s)⟩
  · exact ⟨rfl, xferMoves_self _⟩
  · exact ⟨rfl, xferMoves_self _⟩

theorem transferMove_xferByte {b : Byte} {s t : State} (hturn : listening s = true) (h : xferByte b s = .next t) :
    TransferMove s t := by
  refine ⟨sessionPlaces_of_outsideTransfer (xferByte_outside h), ?_⟩
  rcases xferState_of_xferByte h with e | e
  · exact xferMoves_of_eq e
  · rw [e]
    exact xferMoves_complete_of_listening hturn

theorem transferMove_rxChar {wait : Nat} {dl : Option Nat} {s t : State} (howner : s.owner = .xfer)
    (hturn : listening s = true) (h : execRxChar wait dl s = .next t) : TransferMove s t := by
  rcases execRxChar_cases wait dl s with ⟨b, e⟩ | e | e | ⟨b, -, -, e⟩ | ⟨n, -, e⟩ <;> rw [e] at h
  · rw [rxByte_of_xfer howner] at h
    exact transferMove_xferByte hturn h
  all_goals cases h
  · rw [rxTimeout_of_xfer howner]
    exact ⟨rfl, xferMoves_self _⟩
  · rw [rxExhausted_of_xfer howner]
    exact ⟨rfl, xferMoves_self _⟩
  · exact ⟨rfl, xferMoves_self _⟩
  · rcases tryRecv_cases wait dl { s with retry := n } with e | e <;> rw [e]
    · rw [rxTimeout_of_xfer (s := { s with retry := n }) howner]
      exact ⟨rfl, xferMoves_self _⟩
    · exact ⟨rfl, xferMoves_self _⟩

theorem transferMove_of_transferLine {s t : State} {hd : Header} {c : XCase} {td : Todo} (f : InTransfer hd c s)
    (h : TransferLine s td) (run : runFlight td s = .next t) : TransferMove s t := by
  cases h with
  | flush =>
    cases run
    exact ⟨rfl, xferMoves_self _⟩
  | header hphase =>
    refine ⟨sessionPlaces_of_outsideTransfer (execTpduHdr_outside run), ?_⟩
    rcases xferState_of_execTpduHdr run with e | e
    · exact xferMoves_of_eq e
    · rw [e, hphase]; rfl
  | null =>
    cases run
    exact ⟨rfl, xferMoves_self _⟩
  | ack e hphase =>
    cases e.symm.trans run
    exact ⟨sessionPlaces_of_outsideTransfer (ackReaction_outside s), xferMoves_ackReaction hphase⟩
  | sw1 =>
    cases run
    exact ⟨rfl, xferMoves_self _⟩
  | txChar => exact transferMove_txChar run
  | rxChar _ hturn => exact transferMove_rxChar f.owner hturn run
  | statusOk =>
    cases run
    rw [retireCommand_of_transfer f.op]
    exact ⟨rfl, xferMoves_idle _⟩
  | fails e =>
    cases e.symm.trans run
    exact ⟨rfl, xferMoves_idle _⟩

theorem transferMove_step {s t : State} {hd : Header} {c : XCase} (h : s.safe = true) (f : InTransfer hd c s)
    (hmove : dueMove s = none) (hstep : step s = .next t) : TransferMove s t := by
  obtain ⟨u, hu, rfl⟩ := holdShownResult_eq_next ((step_of_no_move hmove).symm.trans hstep)
  have g := transferMove_of_transferLine f (transferLine_of_safe h f) hu
  exact ⟨g.session, g.moves⟩

/-! ## The commands -/

theorem resetCommand_xferState (k : ResetKind) (s : State) :
    (resetCommand k s).xferState = s.xferState ∨ (resetCommand k s).xferState = .idle := by
  rcases resetCommand_cases k s with ⟨-, e⟩ | ⟨-, -, e⟩ | ⟨-, -, e⟩ <;> rw [e]
  · exact .inl rfl
  · exact .inr rfl
  · exact .inl rfl

theorem xferState_of_transfer {cla ins p1 p2 p3 : Byte} {data : List Byte} {i : Instr} {s t : State}
    (hi : i = .transfer cla ins p1 p2 p3 ∨ i = .transferD cla ins p1 p2 p3 data) (h : exec i s = .next t) :
    t.xferState = s.xferState ∨ s.busy = false ∧ t.xferState = .sendHeader := by
  rcases execTransfer_cases cla ins p1 p2 p3 data s hi with e | ⟨hrest, -, dp, bs, -, e⟩ <;> cases e.symm.trans h
  · exact .inl rfl
  · exact .inr ⟨hrest, rfl⟩

/-- A reset command abandons the transfer (R296), and a transfer is accepted at rest (R241); no other command moves
`xfer_state`. -/
theorem xferState_of_command {i : Instr} {s t : State} (hi : i.isCommand = true) (h : exec i s = .next t) :
    (t.xferState = s.xferState ∨ t.xferState = .idle) ∨ s.busy = false ∧ t.xferState = .sendHeader := by
  cases i with
  | init c =>
    rcases execInit_cases c s with ⟨e, -⟩ | ⟨-, ⟨b, g, -, e⟩ | e⟩ <;> cases e.symm.trans h <;> exact .inl (.inl rfl)
  | deriveTiming d =>
    rcases execDeriveTiming_cases d s with e | ⟨-, ⟨b, g, e⟩ | e⟩ <;> cases e.symm.trans h <;> exact .inl (.inl rfl)
  | decodeAtr bs =>
    rcases execDecodeAtr_cases bs s with e | ⟨-, -, st, d, v, e⟩ <;> cases e.symm.trans h <;> exact .inl (.inl rfl)
  | coldReset => cases h; exact .inl (resetCommand_xferState .cold s)
  | warmReset => cases h; exact .inl (resetCommand_xferState .warm s)
  | transfer => exact (xferState_of_transfer (data := []) (.inl rfl) h).imp_left .inl
  | transferD => exact (xferState_of_transfer (.inr rfl) h).imp_left .inl
  | reservedOp0 => cases h; exact .inl (.inl rfl)
  | reservedOp7 => cases h; exact .inl (.inl rfl)
  | _ => cases hi

theorem xferMoves_runCommand {bs : List Byte} {s t : State} (hsafe : s.safe = true) (h : runCommand bs s = .next t) :
    xferMoves s.xferState t.xferState = true := by
  rcases runCommand_cases bs s with ⟨i, hd, e⟩ | e <;> rw [e] at h
  · rcases xferState_of_command (isCommand_of_decodeCommand hd) h with (e | e) | ⟨hrest, e⟩
    · exact xferMoves_of_eq e
    · rw [e]
      exact xferMoves_idle _
    · rw [e, (atRest_of_safe hsafe hrest).xfer]
      rfl
  · cases h
    exact xferMoves_self _

/-! ## O57 and O58 -/

theorem xferState_idle_of_safe {s : State} (h : s.safe = true) (hop : s.curOp ≠ .transfer) : s.xferState = .idle := by
  rcases inFlight_cases h with f | f | ⟨hd, c, f⟩
  · exact f.xfer
  · exact f.xfer
  · exact absurd f.op hop

theorem safe_of_step {s t : State} (h : s.safe = true) (hstep : step s = .next t) : t.safe = true := by
  obtain ⟨u, hu, hsafe⟩ := safeStatesStaySafe s h
  cases hu.symm.trans hstep
  exact hsafe

/-- Settles O57: a command leaves the phase, abandons the transfer or begins one at rest; in a card reset the Transfer
Engine is idle, and stays so because the next state is safe; and each line of a transfer moves along the table. -/
theorem transferEngineMoves : Obligations.TransferEngineMoves := by
  intro s t h hstep
  rcases step_cases s with ⟨-, e⟩ | ⟨bs, -, e⟩ | ⟨hmove, hfetch, -⟩
  · cases e.symm.trans hstep
    exact xferMoves_idle _
  · exact xferMoves_runCommand (s := takeMove s) ((safe_takeMove s).trans h) (e.symm.trans hstep)
  · rcases inFlight_cases h with f | f | ⟨hd, c, f⟩
    · cases (step_of_idle hmove (todo_of_atRest h f)).symm.trans hstep
      exact xferMoves_self _
    · have g : ResetKeeps s t := resetKeeps_step h f hstep (by rw [hfetch]; nofun)
      rw [xferState_idle_of_safe (safe_of_step h hstep) g.op]
      exact xferMoves_idle _
    · exact (transferMove_step h f hmove hstep).moves

/-- Settles O58: every line of a transfer is a `TransferMove`. -/
theorem transferLeavesSession : Obligations.TransferLeavesSession := by
  intro s t h hop hmove hstep
  obtain ⟨howner, -⟩ := owner_of_safe h
  obtain ⟨hd, c, f⟩ := inTransfer_of_safe h (by rw [howner, hop]; rfl)
  have hplaces := (transferMove_step h f hmove hstep).session
  simpa only [sessionPlaces, sessionTiming, contacts, Prod.mk.injEq, and_assoc] using hplaces

end Sys2Proof.Machine
end

section
/-! The Transfer Engine line by line (44_tpdu_transfer.md): the acceptance, the header, the procedure byte, the data and
the status that come in. Each line's equation is that of the loop head or the wait it goes on to. -/

namespace Sys2Proof.Machine

/-! ## Acceptance (R241) -/

/-- The overall deadline of a transfer is counted from its acceptance (R241). -/
theorem acceptTransfer_of_baudDiv (h : Header) (dp : Bool) (data : List Byte) {d : BitVec 16} {s : State}
    (hbaud : s.baudDiv = some d) :
    acceptTransfer h dp data s =
      { s with busy := true, curOp := .transfer, owner := .xfer, hdr := some h, xcase := some (caseOf dp h.p3),
               dout := memOfBytes data, doutLen := BitVec.ofNat 8 data.length, rspLen := 0, rsp := [], sw1 := none,
               sw2 := none, xferDeadline := some (s.now + (Config.xferTimeoutEtu : Nat) * d.toNat), idx := 0,
               xferState := .sendHeader, todo := .flush, char := .fresh, midStep := false,
               history := [.accept .transfer] } := by
  rw [acceptTransfer, cycles, readBaudDiv_of_some hbaud]
  rfl

theorem accepts_transfer_of_rest {s : State} (hrest : s.busy = false) (hsess : s.sessState = .active) :
    accepts .transfer s = true := by
  obtain ⟨-, -, -, -, -, htransfer⟩ := acceptanceTable s
  exact htransfer.mpr ⟨hrest, hsess⟩

/-- Settles O37. -/
theorem transferAccepted : Obligations.TransferAccepted := by
  intro cla ins p1 p2 p3 d s hrest hsess hbaud
  rw [exec, execTransfer, if_pos (accepts_transfer_of_rest hrest hsess), acceptTransfer_of_baudDiv _ _ _ hbaud]
  rfl

/-- Settles O38: DOUT is what the data fill, and P3 counts them without loss. -/
theorem transferWithDataAccepted : Obligations.TransferWithDataAccepted := by
  intro cla ins p1 p2 p3 data d s hrest hsess hlen hbaud
  have haccepts : (accepts .transfer s && data.length == p3.toNat) = true := by
    rw [accepts_transfer_of_rest hrest hsess, hlen, beq_self_eq_true, Bool.true_and]
  have hcount : BitVec.ofNat 8 data.length = p3 := by rw [hlen, BitVec.ofNat_toNat, BitVec.setWidth_eq]
  refine ⟨acceptTransfer ⟨cla, ins, p1, p2, p3⟩ true data s, ?exec, memRead_memOfBytes data, ?state⟩
  case exec => rw [exec, execTransferD, if_pos haccepts]
  case state =>
    rw [acceptTransfer_of_baudDiv _ _ _ hbaud, hcount]
    rfl

/-! ## The flush and the header (R242, R243) -/

/-- Settles O39: the flush ends a step of R13, and the header is that of `HDR`. -/
theorem flushComesFirst : Obligations.FlushComesFirst := by
  intro h s hmove htodo hhdr
  have hflush : runFlush s = continueAt (.micro (headerInstr h)) (chFlush s) := by
    rw [runFlush, readHdr_of_some hhdr]
  exact step_of_done hmove (by rw [htodo, runFlight, hflush]; rfl) rfl

/-- The header goes out in the order it is written (30_encoding.md R100). -/
theorem headerByte_of_getElem? {h : Header} {j : Nat} {b : Byte}
    (hb : [h.cla, h.ins, h.p1, h.p2, h.p3][j]? = some b) : j < Config.hdrLen ∧ headerByte h j = b := by
  obtain ⟨hj, rfl⟩ := List.getElem?_eq_some_iff.mp hb
  refine ⟨hj, ?_⟩
  match j, hj with
  | 0, _ => rfl
  | 1, _ => rfl
  | 2, _ => rfl
  | 3, _ => rfl
  | 4, _ => rfl

theorem awaitProcedureByte_of_deadline {s : State} {d : BitVec 16} {dl : Nat} (hbaud : s.baudDiv = some d)
    (hdl : s.xferDeadline = some dl) :
    awaitProcedureByte s = goto (.micro (.rxChar ((Config.wwtEtu : Nat) * d.toNat) (some dl))) s := by
  rw [awaitProcedureByte, cycles, readBaudDiv_of_some hbaud, readXferDeadline, hdl, Option.getD_some]

/-- Settles O40: the loop head of `SendHeader` by how many bytes are out. -/
theorem headerGoesOut : Obligations.HeaderGoesOut := by
  intro cla ins p1 p2 p3 s
  refine ⟨fun j b hidx hb => ?byte, fun d dl hidx hbaud hdl => ?wait⟩
  case byte =>
    obtain ⟨hlt, hbyte⟩ := headerByte_of_getElem? (h := ⟨cla, ins, p1, p2, p3⟩) hb
    rw [exec, execTpduHdr, hidx, if_pos hlt, hbyte]
    rfl
  case wait =>
    rw [exec, execTpduHdr, if_neg hidx.not_gt,
      awaitProcedureByte_of_deadline (s := { s with xferState := .awaitProcedureByte }) hbaud hdl]
    rfl

/-! ## The procedure byte (R245 to R247) -/

/-- Settles O41: the two waits. -/
theorem nullWaitsAndSw1IsTaken : Obligations.NullWaitsAndSw1IsTaken := by
  intro d s hbaud
  refine ⟨fun dl hdl => ?null, fun b => ?sw1⟩
  case null =>
    rw [exec, execProcNull, awaitProcedureByte_of_deadline hbaud hdl]
    rfl
  case sw1 =>
    rw [exec, execProcSw1, awaitCardByte_of_baudDiv (s := { s with sw1 := some b }) hbaud]
    rfl

/-- The loop head of `DataIn` awaits a byte either way; `rsp_len` is written with the last data byte there (R249). -/
theorem dataInLoop_of_baudDiv {s : State} {h : Header} {d : BitVec 16} (hhdr : s.hdr = some h)
    (hbaud : s.baudDiv = some d) :
    dataInLoop s =
      goto (.micro (.rxChar ((Config.wwtEtu : Nat) * d.toNat) none))
        { s with rspLen := if s.idx.toNat < h.p3.toNat then s.rspLen else h.p3 } := by
  rw [dataInLoop, readHdr_of_some hhdr]
  split
  · exact awaitCardByte_of_baudDiv hbaud
  · exact awaitCardByte_of_baudDiv (s := { s with rspLen := h.p3 }) hbaud

theorem toNat_pos_of_ne_zero {n : Byte} (h : n ≠ 0) : 0 < n.toNat :=
  Nat.pos_of_ne_zero fun h0 => h (BitVec.eq_of_toNat_eq h0)

/-- Both classes of ACK have one reaction (R112). -/
theorem exec_ack {pb : Byte} {i : Instr} (hi : i ∈ [Instr.procAck pb, .procAckInv pb]) (s : State) :
    exec i s = .next (ackReaction s) := by
  simp only [List.mem_cons, List.not_mem_nil, or_false] at hi
  rcases hi with rfl | rfl <;> rfl

theorem ackReaction_of_case1 {s : State} (h : s.xcase = some .case1) :
    ackReaction s = goto (.micro .statusProtocolViolation) s := by
  rw [ackReaction, readXcase_of_some h]

theorem ackReaction_of_case2 {s : State} (h : s.xcase = some .case2) :
    ackReaction s = dataOutLoop { s with idx := 0, xferState := .dataOut } := by
  rw [ackReaction, readXcase_of_some h]

theorem ackReaction_of_case3 {s : State} (h : s.xcase = some .case3) :
    ackReaction s = dataInLoop { s with idx := 0, xferState := .dataIn } := by
  rw [ackReaction, readXcase_of_some h]

/-- Settles O42: with P3 not 0 the loop head of either data phase finds a byte to move. -/
theorem ackStartsDataPhase : Obligations.AckStartsDataPhase := by
  intro pb h d s hhdr hbaud i hi
  rw [exec_ack hi]
  refine ⟨fun hcase => ?violation, fun c hcase hp3 hdout => ?dataOut, fun hcase hp3 => ?dataIn⟩
  case violation =>
    rw [ackReaction_of_case1 hcase]
    rfl
  case dataOut =>
    rw [ackReaction_of_case2 hcase, dataOutLoop_of_lt (s := { s with idx := 0, xferState := .dataOut }) hhdr
      (toNat_pos_of_ne_zero hp3) hdout]
    rfl
  case dataIn =>
    rw [ackReaction_of_case3 hcase, dataInLoop_of_baudDiv (s := { s with idx := 0, xferState := .dataIn }) hhdr hbaud,
      if_pos (show (0 : BitVec 9).toNat < h.p3.toNat from toNat_pos_of_ne_zero hp3)]
    rfl

/-! ## The characters received (R244, R247 to R250) -/

theorem exec_rxChar_of_xferByte (wait : Nat) (dl : Option Nat) {b : Byte} {s : State} (hchar : s.char = .got (.byte b))
    (howner : s.owner = .xfer) : exec (.rxChar wait dl) s = xferByte b s := by
  rw [← rxByte_of_xfer howner]
  simp only [exec, execRxChar, hchar]

theorem xferByte_of_awaitProcedureByte (b : Byte) {s : State} (h : s.xferState = .awaitProcedureByte) :
    xferByte b s = .next (procedureByte b s) := by
  simp only [xferByte, h]

theorem xferByte_of_dataOut (b : Byte) {s : State} (h : s.xferState = .dataOut) :
    xferByte b s = .next (statusByte b s) := by
  simp only [xferByte, h]

theorem xferByte_of_dataIn (b : Byte) {s : State} (h : s.xferState = .dataIn) : xferByte b s = dataInByte b s := by
  simp only [xferByte, h]

theorem statusByte_of_sw1_none {b : Byte} {s : State} (h : s.sw1 = none) :
    statusByte b s = awaitCardByte { s with sw1 := some b } := by
  simp only [statusByte, h]

theorem statusByte_of_sw1_ne_none {b : Byte} {s : State} (h : s.sw1 ≠ none) : statusByte b s = statusComplete b s := by
  rcases statusByte_cases b s with ⟨hnone, -⟩ | ⟨-, e⟩
  · exact absurd hnone h
  · exact e

theorem procedureByte_of_sw1_none {b : Byte} {h : Header} {s : State} (hhdr : s.hdr = some h) (hsw1 : s.sw1 = none) :
    procedureByte b s = goto (.micro (classifyProc h.ins b)) s := by
  simp only [procedureByte, hsw1, readHdr_of_some hhdr]

theorem procedureByte_of_sw1_ne_none {b : Byte} {s : State} (h : s.sw1 ≠ none) :
    procedureByte b s = statusComplete b s := by
  rcases procedureByte_cases b s with ⟨hnone, -⟩ | ⟨-, e⟩
  · exact absurd hnone h
  · exact e

/-- Settles O33, by whether SW1 is there. -/
theorem rxCharProcedureByte : Obligations.RxCharProcedureByte := by
  intro wait dl b h s hchar howner hphase hhdr
  rw [exec_rxChar_of_xferByte wait dl hchar howner, xferByte_of_awaitProcedureByte b hphase]
  refine ⟨fun hsw1 => ?procedure, fun hsw1 => ?sw2⟩
  case procedure =>
    rw [procedureByte_of_sw1_none hhdr hsw1]
    rfl
  case sw2 =>
    rw [procedureByte_of_sw1_ne_none hsw1]
    rfl

/-- P3 is a byte, so a data byte has its place in RSP (20_memory.md R75). -/
theorem dataInByte_of_lt (b : Byte) {s : State} {h : Header} (hhdr : s.hdr = some h)
    (hidx : s.idx.toNat < h.p3.toNat) :
    dataInByte b s = .next (dataInLoop { s with rsp := memWrite s.rsp s.idx.toNat b, idx := s.idx + 1 }) := by
  obtain ⟨t, ht⟩ := dataInByte_ne_fault b s
  rcases dataInByte_eq_next ht with ⟨-, -, rfl⟩ | ⟨hge, -⟩
  · exact ht
  · rw [readHdr_of_some hhdr] at hge
    exact absurd hidx hge.not_gt

theorem dataInByte_of_le (b : Byte) {s : State} {h : Header} (hhdr : s.hdr = some h)
    (hidx : h.p3.toNat ≤ s.idx.toNat) : dataInByte b s = .next (statusByte b s) := by
  rw [dataInByte, readHdr_of_some hhdr, if_neg hidx.not_gt]

/-- Settles O34: `idx` counts without wrapping, being below P3. -/
theorem rxCharDataIn : Obligations.RxCharDataIn := by
  intro wait dl b h d s hchar howner hphase hhdr hbaud hidx
  have hnext : (s.idx + 1).toNat = s.idx.toNat + 1 := toNat_idx_succ hidx (by omega)
  have hexec : exec (.rxChar wait dl) s =
      .next (dataInLoop { s with rsp := memWrite s.rsp s.idx.toNat b, idx := s.idx + 1 }) := by
    rw [exec_rxChar_of_xferByte wait dl hchar howner, xferByte_of_dataIn b hphase, dataInByte_of_lt b hhdr hidx]
  rw [dataInLoop_of_baudDiv (s := { s with rsp := _, idx := s.idx + 1 }) hhdr hbaud, hnext] at hexec
  exact ⟨_, hexec, fun j => memRead_memWrite s.rsp s.idx.toNat j b, rfl⟩

/-- The line a status byte is, after either data phase (R250). -/
theorem exec_rxChar_of_status (wait : Nat) (dl : Option Nat) {b : Byte} {h : Header} {s : State}
    (hchar : s.char = .got (.byte b)) (howner : s.owner = .xfer) (hhdr : s.hdr = some h)
    (hphase : s.xferState = .dataOut ∨ s.xferState = .dataIn ∧ h.p3.toNat ≤ s.idx.toNat) :
    exec (.rxChar wait dl) s = .next (statusByte b s) := by
  rw [exec_rxChar_of_xferByte wait dl hchar howner]
  rcases hphase with hout | ⟨hin, hidx⟩
  · exact xferByte_of_dataOut b hout
  · rw [xferByte_of_dataIn b hin, dataInByte_of_le b hhdr hidx]

/-- Settles O35, by whether SW1 is there. -/
theorem rxCharStatusBytes : Obligations.RxCharStatusBytes := by
  intro wait dl b h d s hchar howner hhdr hbaud hphase
  rw [exec_rxChar_of_status wait dl hchar howner hhdr hphase]
  refine ⟨fun hsw1 => ?sw1, fun hsw1 => ?sw2⟩
  case sw1 =>
    rw [statusByte_of_sw1_none hsw1, awaitCardByte_of_baudDiv (s := { s with sw1 := some b }) hbaud]
    rfl
  case sw2 =>
    rw [statusByte_of_sw1_ne_none hsw1]
    rfl

end Sys2Proof.Machine
end

section
/-! A transfer pre-empted and commands refused under way (60_exceptions.md R296, R297), and the ends of a command: the
common completion and what each kind of response changes before it (R286 to R293). -/

namespace Sys2Proof.Machine

/-! ## What is presented while busy (R296, R297) -/

/-- Settles O9: what decodes is a command, and each command is refused. -/
theorem resetInFlightRefusesAll : Obligations.ResetInFlightRefusesAll := by
  intro bs s hbusy hop
  rcases runCommand_cases bs s with ⟨i, hdecode, hrun⟩ | hrefused
  · rw [hrun]
    exact exec_command_of_busy hbusy hop (isCommand_of_decodeCommand hdecode)
  · exact hrefused

theorem resetCommand_of_transfer (k : ResetKind) {s : State} (hbusy : s.busy = true) (hop : s.curOp = .transfer) :
    resetCommand k s = acceptReset k (dropTransfer s) := by
  have hflight : transferInFlight s = true := by simp [transferInFlight, hbusy, hop]
  have haccepts : accepts (resetOp k) s = true := by
    obtain ⟨-, -, -, hcold, hwarm, -⟩ := acceptanceTable s
    cases k with
    | cold => exact hcold.mpr (.inr ⟨hbusy, hop⟩)
    | warm => exact hwarm.mpr (.inr ⟨hbusy, hop⟩)
  rw [resetCommand, if_pos haccepts, if_pos hflight]

/-- Settles O16: in either kind the acceptance follows on the abandoned transfer. -/
theorem resetPreemptsTransfer : Obligations.ResetPreemptsTransfer := by
  intro s hbusy hop
  exact ⟨congrArg _ (resetCommand_of_transfer .cold hbusy hop), congrArg _ (resetCommand_of_transfer .warm hbusy hop)⟩

/-! ## The common completion (R286) -/

/-- No kind but `MalformedAtr` has a detail (30_encoding.md R126); then the completion shows what it is given. -/
theorem respond_eq {st : Status} {d : Detail} (h : st = .malformedAtr ∨ d = .none) (s : State) :
    respond st d s =
      { s with rspStatus := st, rspDetail := d, busy := false, curOp := .none, owner := .none, todo := .idle,
               char := .fresh, midStep := false, history := s.history ++ [.respond st d] } := by
  have hdetail : (if st = .malformedAtr then d else .none) = d := by
    rcases h with hst | rfl
    · exact if_pos hst
    · exact ite_self _
  rw [respond, hdetail]

/-! ## Success (R251, R286) -/

theorem retireCommand_of_ne_transfer {s : State} (h : s.curOp ≠ .transfer) : retireCommand s = s := by
  unfold retireCommand
  split
  case h_1 htransfer => exact absurd htransfer h
  all_goals rfl

/-- Settles O43: only a transfer has something to retire. -/
theorem okEndsCommand : Obligations.OkEndsCommand := by
  intro s
  refine ⟨fun hop => ?other, fun hop => ?transfer⟩
  case other => rw [exec, execStatusOk, retireCommand_of_ne_transfer hop, respond_eq (.inr rfl)]
  case transfer =>
    rw [exec, execStatusOk, retireCommand_of_transfer hop, respond_eq (.inr rfl)]
    rfl

/-! ## The error kinds (R287 to R293) -/

/-- Settles O44: the completion after the loss of the result pair, and the completion alone. -/
theorem configAndNoCardErrorsEndCommand : Obligations.ConfigAndNoCardErrorsEndCommand := by
  intro s
  refine ⟨?configError, ?noCardResponse⟩
  case configError => rw [exec, execStatusConfigError, raiseConfigError, respond_eq (.inr rfl)]
  case noCardResponse => rw [exec, execStatusNoCardResponse, raiseNoCardResponse, respond_eq (.inr rfl)]

theorem failAtr_of_decodeAtr {s : State} (h : s.curOp = .decodeAtr) : failAtr s = { s with decd := none } := by
  simp only [failAtr, h]

/-- Settles O45: the two kinds complete alike, after what `failAtr` makes of the command in flight. -/
theorem atrErrorsEndCommand : Obligations.AtrErrorsEndCommand := by
  intro d s i st e hkind
  have hexec : exec i s = .next (respond st e (failAtr s)) := by
    rcases hkind with ⟨rfl, rfl, rfl⟩ | ⟨rfl, rfl, rfl⟩ <;> rfl
  have hdetail : st = .malformedAtr ∨ e = .none := hkind.imp (fun ⟨_, hst, _⟩ => hst) (fun ⟨_, _, he⟩ => he)
  rw [hexec, respond_eq hdetail]
  refine ⟨fun hop => ?reset, fun hop => ?decode⟩
  case reset =>
    have hfail : failAtr s = { s with sessState := .failed, atrValid := false, atrd := none } :=
      hop.elim (failAtr_of_reset (k := .cold)) (failAtr_of_reset (k := .warm))
    rw [hfail]
  case decode => rw [failAtr_of_decodeAtr hop]

/-- Settles O46: each of the three rows raises its kind. -/
theorem transferErrorsEndCommand : Obligations.TransferErrorsEndCommand := by
  intro s p hp
  have hexec : exec p.1 s = .next (raiseTransferError p.2 s) := by
    simp only [List.mem_cons, List.not_mem_nil, or_false] at hp
    rcases hp with rfl | rfl | rfl <;> rfl
  rw [hexec, raiseTransferError, respond_eq (.inr rfl)]
  rfl

end Sys2Proof.Machine
end

section
/-! The hardware reset in the step (70_reset_and_hazards.md R320): the host's due move is the assertion of the reset
input, and the state after it does not depend on what was in flight. -/

namespace Sys2Proof.Machine

/-- Unlike a command (`dueMove_of_command`), the reset does not wait for the end of a step of R13. -/
theorem dueMove_of_hardwareReset {s : State} {p : Presentation} {rest : List Presentation}
    (hport : s.port = p :: rest) (hdue : p.notBefore ≤ s.tick) (hmove : p.move = .hardwareReset) :
    dueMove s = some .hardwareReset := by
  simp only [dueMove, hport, hdue, hmove, if_true]

theorem step_of_dueMove_hardwareReset {s : State} (h : dueMove s = some .hardwareReset) :
    step s = .next (hardwareReset (takeMove s)) := by
  rw [step, fetch, h, runFetched]

/-- Settles O49: the due move is the reset, the port loses that move, and the registers are those of `State.reset`. -/
theorem hardwareResetStep : Obligations.HardwareResetStep := by
  intro s p rest hport hdue hmove
  have htake : (takeMove s).port = rest := by rw [takeMove_port, hport, List.tail_cons]
  rw [step_of_dueMove_hardwareReset (dueMove_of_hardwareReset hport hdue hmove), hardwareReset, htake,
    takeMove_replies, takeMove_tick]
  rfl

end Sys2Proof.Machine
end
